-- ==== Sys2Proof/Word.lean ====
section
/-! DEFINITION. The two word types of the core (00_scope.md R1): 8-bit data, 16-bit addresses. -/

namespace Sys2Proof

/-- An 8-bit register, a memory byte, an instruction byte (R1). -/
abbrev Byte := BitVec 8

/-- A 16-bit register or an address (R1). -/
abbrev Word := BitVec 16

end Sys2Proof
end

