-- ==== Sys2Proof/Syntax.lean ====
section
/-! DEFINITION. The instructions: one constructor per row of spec/opcode_table.json, the
rows with operand bytes first (Lean's runtime wants constructors that hold data early), each part in
the table's order; and the operand names of 30_encoding.md R68 to R71. After `Instr` come the families: each
names a family's constructors by their operands, so that a rule of the spec about a family can be
read as one function. -/

namespace Sys2Proof

/-- The 8-bit registers an r8 code names (30_encoding.md R68; code 6 is the byte at HL). -/
inductive R8 where
  | b
  | c
  | d
  | e
  | h
  | l
  | a
  deriving DecidableEq, Repr

/-- The rp operands (30_encoding.md R69). -/
inductive Rp where
  | bc
  | de
  | hl
  | sp
  deriving DecidableEq, Repr

/-- The rp2 operands (30_encoding.md R70). -/
inductive Rp2 where
  | bc
  | de
  | hl
  | af
  deriving DecidableEq, Repr

/-- The condition codes (30_encoding.md R71). -/
inductive Cond where
  | nz
  | z
  | nc
  | c
  deriving DecidableEq, Repr

/-- The ALU[y] operations (30_encoding.md R75). -/
inductive AluOp where
  | add
  | adc
  | sub
  | sbc
  | and
  | xor
  | or
  | cp
  deriving DecidableEq, Repr

/-- The ROT[y] operations (30_encoding.md R77). -/
inductive RotOp where
  | rlc
  | rrc
  | rl
  | rr
  | sla
  | sra
  | swap
  | srl
  deriving DecidableEq, Repr

/-- The instructions. Operand bytes keep their raw bits: `n8`, `a8`, `n16`, `a16` unsigned, `e8` a
signed displacement (R63 to R66). `prefixCb` is the table's row for the prefix byte alone, which "is
not an instruction by itself" (48_system.md R275, log entry 19). The eleven illegal opcodes have one
constructor each (30_encoding.md R78). -/
inductive Instr where
  /-- `LD BC,n16`, 0x01, R253. -/
  | ldBcN16 (n16 : Word)
  /-- `LD B,n8`, 0x06, R103. -/
  | ldBN8 (n8 : Byte)
  /-- `LD (a16),SP`, 0x08, R254. -/
  | ldMemA16Sp (a16 : Word)
  /-- `LD C,n8`, 0x0E, R103. -/
  | ldCN8 (n8 : Byte)
  /-- `LD DE,n16`, 0x11, R253. -/
  | ldDeN16 (n16 : Word)
  /-- `LD D,n8`, 0x16, R103. -/
  | ldDN8 (n8 : Byte)
  /-- `JR e8`, 0x18, R231. -/
  | jrE8 (e8 : Byte)
  /-- `LD E,n8`, 0x1E, R103. -/
  | ldEN8 (n8 : Byte)
  /-- `JR NZ,e8`, 0x20, R232. -/
  | jrNzE8 (e8 : Byte)
  /-- `LD HL,n16`, 0x21, R253. -/
  | ldHlN16 (n16 : Word)
  /-- `LD H,n8`, 0x26, R103. -/
  | ldHN8 (n8 : Byte)
  /-- `JR Z,e8`, 0x28, R232. -/
  | jrZE8 (e8 : Byte)
  /-- `LD L,n8`, 0x2E, R103. -/
  | ldLN8 (n8 : Byte)
  /-- `JR NC,e8`, 0x30, R232. -/
  | jrNcE8 (e8 : Byte)
  /-- `LD SP,n16`, 0x31, R253. -/
  | ldSpN16 (n16 : Word)
  /-- `LD (HL),n8`, 0x36, R104. -/
  | ldMemHlN8 (n8 : Byte)
  /-- `JR C,e8`, 0x38, R232. -/
  | jrCE8 (e8 : Byte)
  /-- `LD A,n8`, 0x3E, R103. -/
  | ldAN8 (n8 : Byte)
  /-- `JP NZ,a16`, 0xC2, R234. -/
  | jpNzA16 (a16 : Word)
  /-- `JP a16`, 0xC3, R233. -/
  | jpA16 (a16 : Word)
  /-- `CALL NZ,a16`, 0xC4, R237. -/
  | callNzA16 (a16 : Word)
  /-- `ADD A,n8`, 0xC6, R135. -/
  | addAN8 (n8 : Byte)
  /-- `JP Z,a16`, 0xCA, R234. -/
  | jpZA16 (a16 : Word)
  /-- `CALL Z,a16`, 0xCC, R237. -/
  | callZA16 (a16 : Word)
  /-- `CALL a16`, 0xCD, R236. -/
  | callA16 (a16 : Word)
  /-- `ADC A,n8`, 0xCE, R138. -/
  | adcAN8 (n8 : Byte)
  /-- `JP NC,a16`, 0xD2, R234. -/
  | jpNcA16 (a16 : Word)
  /-- `CALL NC,a16`, 0xD4, R237. -/
  | callNcA16 (a16 : Word)
  /-- `SUB n8`, 0xD6, R141. -/
  | subN8 (n8 : Byte)
  /-- `JP C,a16`, 0xDA, R234. -/
  | jpCA16 (a16 : Word)
  /-- `CALL C,a16`, 0xDC, R237. -/
  | callCA16 (a16 : Word)
  /-- `SBC A,n8`, 0xDE, R144. -/
  | sbcAN8 (n8 : Byte)
  /-- `LDH (a8),A`, 0xE0, R115. -/
  | ldhMemA8A (a8 : Byte)
  /-- `AND n8`, 0xE6, R147. -/
  | andN8 (n8 : Byte)
  /-- `ADD SP,e8`, 0xE8, R258. -/
  | addSpE8 (e8 : Byte)
  /-- `LD (a16),A`, 0xEA, R113. -/
  | ldMemA16A (a16 : Word)
  /-- `XOR n8`, 0xEE, R150. -/
  | xorN8 (n8 : Byte)
  /-- `LDH A,(a8)`, 0xF0, R116. -/
  | ldhAMemA8 (a8 : Byte)
  /-- `OR n8`, 0xF6, R153. -/
  | orN8 (n8 : Byte)
  /-- `LD HL,SP+e8`, 0xF8, R257. -/
  | ldHlSpE8 (e8 : Byte)
  /-- `LD A,(a16)`, 0xFA, R114. -/
  | ldAMemA16 (a16 : Word)
  /-- `CP n8`, 0xFE, R156. -/
  | cpN8 (n8 : Byte)
  /-- `NOP`, 0x00, R270. -/
  | nop
  /-- `LD (BC),A`, 0x02, R105. -/
  | ldMemBcA
  /-- `INC BC`, 0x03, R170. -/
  | incBc
  /-- `INC B`, 0x04, R157. -/
  | incB
  /-- `DEC B`, 0x05, R159. -/
  | decB
  /-- `RLCA`, 0x07, R180. -/
  | rlca
  /-- `ADD HL,BC`, 0x09, R172. -/
  | addHlBc
  /-- `LD A,(BC)`, 0x0A, R107. -/
  | ldAMemBc
  /-- `DEC BC`, 0x0B, R171. -/
  | decBc
  /-- `INC C`, 0x0C, R157. -/
  | incC
  /-- `DEC C`, 0x0D, R159. -/
  | decC
  /-- `RRCA`, 0x0F, R181. -/
  | rrca
  /-- `STOP`, 0x10, R272. -/
  | stop
  /-- `LD (DE),A`, 0x12, R106. -/
  | ldMemDeA
  /-- `INC DE`, 0x13, R170. -/
  | incDe
  /-- `INC D`, 0x14, R157. -/
  | incD
  /-- `DEC D`, 0x15, R159. -/
  | decD
  /-- `RLA`, 0x17, R182. -/
  | rla
  /-- `ADD HL,DE`, 0x19, R172. -/
  | addHlDe
  /-- `LD A,(DE)`, 0x1A, R108. -/
  | ldAMemDe
  /-- `DEC DE`, 0x1B, R171. -/
  | decDe
  /-- `INC E`, 0x1C, R157. -/
  | incE
  /-- `DEC E`, 0x1D, R159. -/
  | decE
  /-- `RRA`, 0x1F, R183. -/
  | rra
  /-- `LD (HL+),A`, 0x22, R109. -/
  | ldMemHlIncA
  /-- `INC HL`, 0x23, R170. -/
  | incHl
  /-- `INC H`, 0x24, R157. -/
  | incH
  /-- `DEC H`, 0x25, R159. -/
  | decH
  /-- `DAA`, 0x27, R220. -/
  | daa
  /-- `ADD HL,HL`, 0x29, R172. -/
  | addHlHl
  /-- `LD A,(HL+)`, 0x2A, R111. -/
  | ldAMemHlInc
  /-- `DEC HL`, 0x2B, R171. -/
  | decHl
  /-- `INC L`, 0x2C, R157. -/
  | incL
  /-- `DEC L`, 0x2D, R159. -/
  | decL
  /-- `CPL`, 0x2F, R221. -/
  | cpl
  /-- `LD (HL-),A`, 0x32, R110. -/
  | ldMemHlDecA
  /-- `INC SP`, 0x33, R170. -/
  | incSp
  /-- `INC (HL)`, 0x34, R158. -/
  | incMemHl
  /-- `DEC (HL)`, 0x35, R160. -/
  | decMemHl
  /-- `SCF`, 0x37, R222. -/
  | scf
  /-- `ADD HL,SP`, 0x39, R172. -/
  | addHlSp
  /-- `LD A,(HL-)`, 0x3A, R112. -/
  | ldAMemHlDec
  /-- `DEC SP`, 0x3B, R171. -/
  | decSp
  /-- `INC A`, 0x3C, R157. -/
  | incA
  /-- `DEC A`, 0x3D, R159. -/
  | decA
  /-- `CCF`, 0x3F, R223. -/
  | ccf
  /-- `LD B,B`, 0x40, R100. -/
  | ldBB
  /-- `LD B,C`, 0x41, R100. -/
  | ldBC
  /-- `LD B,D`, 0x42, R100. -/
  | ldBD
  /-- `LD B,E`, 0x43, R100. -/
  | ldBE
  /-- `LD B,H`, 0x44, R100. -/
  | ldBH
  /-- `LD B,L`, 0x45, R100. -/
  | ldBL
  /-- `LD B,(HL)`, 0x46, R101. -/
  | ldBMemHl
  /-- `LD B,A`, 0x47, R100. -/
  | ldBA
  /-- `LD C,B`, 0x48, R100. -/
  | ldCB
  /-- `LD C,C`, 0x49, R100. -/
  | ldCC
  /-- `LD C,D`, 0x4A, R100. -/
  | ldCD
  /-- `LD C,E`, 0x4B, R100. -/
  | ldCE
  /-- `LD C,H`, 0x4C, R100. -/
  | ldCH
  /-- `LD C,L`, 0x4D, R100. -/
  | ldCL
  /-- `LD C,(HL)`, 0x4E, R101. -/
  | ldCMemHl
  /-- `LD C,A`, 0x4F, R100. -/
  | ldCA
  /-- `LD D,B`, 0x50, R100. -/
  | ldDB
  /-- `LD D,C`, 0x51, R100. -/
  | ldDC
  /-- `LD D,D`, 0x52, R100. -/
  | ldDD
  /-- `LD D,E`, 0x53, R100. -/
  | ldDE
  /-- `LD D,H`, 0x54, R100. -/
  | ldDH
  /-- `LD D,L`, 0x55, R100. -/
  | ldDL
  /-- `LD D,(HL)`, 0x56, R101. -/
  | ldDMemHl
  /-- `LD D,A`, 0x57, R100. -/
  | ldDA
  /-- `LD E,B`, 0x58, R100. -/
  | ldEB
  /-- `LD E,C`, 0x59, R100. -/
  | ldEC
  /-- `LD E,D`, 0x5A, R100. -/
  | ldED
  /-- `LD E,E`, 0x5B, R100. -/
  | ldEE
  /-- `LD E,H`, 0x5C, R100. -/
  | ldEH
  /-- `LD E,L`, 0x5D, R100. -/
  | ldEL
  /-- `LD E,(HL)`, 0x5E, R101. -/
  | ldEMemHl
  /-- `LD E,A`, 0x5F, R100. -/
  | ldEA
  /-- `LD H,B`, 0x60, R100. -/
  | ldHB
  /-- `LD H,C`, 0x61, R100. -/
  | ldHC
  /-- `LD H,D`, 0x62, R100. -/
  | ldHD
  /-- `LD H,E`, 0x63, R100. -/
  | ldHE
  /-- `LD H,H`, 0x64, R100. -/
  | ldHH
  /-- `LD H,L`, 0x65, R100. -/
  | ldHL
  /-- `LD H,(HL)`, 0x66, R101. -/
  | ldHMemHl
  /-- `LD H,A`, 0x67, R100. -/
  | ldHA
  /-- `LD L,B`, 0x68, R100. -/
  | ldLB
  /-- `LD L,C`, 0x69, R100. -/
  | ldLC
  /-- `LD L,D`, 0x6A, R100. -/
  | ldLD
  /-- `LD L,E`, 0x6B, R100. -/
  | ldLE
  /-- `LD L,H`, 0x6C, R100. -/
  | ldLH
  /-- `LD L,L`, 0x6D, R100. -/
  | ldLL
  /-- `LD L,(HL)`, 0x6E, R101. -/
  | ldLMemHl
  /-- `LD L,A`, 0x6F, R100. -/
  | ldLA
  /-- `LD (HL),B`, 0x70, R102. -/
  | ldMemHlB
  /-- `LD (HL),C`, 0x71, R102. -/
  | ldMemHlC
  /-- `LD (HL),D`, 0x72, R102. -/
  | ldMemHlD
  /-- `LD (HL),E`, 0x73, R102. -/
  | ldMemHlE
  /-- `LD (HL),H`, 0x74, R102. -/
  | ldMemHlH
  /-- `LD (HL),L`, 0x75, R102. -/
  | ldMemHlL
  /-- `HALT`, 0x76, R271. -/
  | halt
  /-- `LD (HL),A`, 0x77, R102. -/
  | ldMemHlA
  /-- `LD A,B`, 0x78, R100. -/
  | ldAB
  /-- `LD A,C`, 0x79, R100. -/
  | ldAC
  /-- `LD A,D`, 0x7A, R100. -/
  | ldAD
  /-- `LD A,E`, 0x7B, R100. -/
  | ldAE
  /-- `LD A,H`, 0x7C, R100. -/
  | ldAH
  /-- `LD A,L`, 0x7D, R100. -/
  | ldAL
  /-- `LD A,(HL)`, 0x7E, R101. -/
  | ldAMemHl
  /-- `LD A,A`, 0x7F, R100. -/
  | ldAA
  /-- `ADD A,B`, 0x80, R133. -/
  | addAB
  /-- `ADD A,C`, 0x81, R133. -/
  | addAC
  /-- `ADD A,D`, 0x82, R133. -/
  | addAD
  /-- `ADD A,E`, 0x83, R133. -/
  | addAE
  /-- `ADD A,H`, 0x84, R133. -/
  | addAH
  /-- `ADD A,L`, 0x85, R133. -/
  | addAL
  /-- `ADD A,(HL)`, 0x86, R134. -/
  | addAMemHl
  /-- `ADD A,A`, 0x87, R133. -/
  | addAA
  /-- `ADC A,B`, 0x88, R136. -/
  | adcAB
  /-- `ADC A,C`, 0x89, R136. -/
  | adcAC
  /-- `ADC A,D`, 0x8A, R136. -/
  | adcAD
  /-- `ADC A,E`, 0x8B, R136. -/
  | adcAE
  /-- `ADC A,H`, 0x8C, R136. -/
  | adcAH
  /-- `ADC A,L`, 0x8D, R136. -/
  | adcAL
  /-- `ADC A,(HL)`, 0x8E, R137. -/
  | adcAMemHl
  /-- `ADC A,A`, 0x8F, R136. -/
  | adcAA
  /-- `SUB B`, 0x90, R139. -/
  | subB
  /-- `SUB C`, 0x91, R139. -/
  | subC
  /-- `SUB D`, 0x92, R139. -/
  | subD
  /-- `SUB E`, 0x93, R139. -/
  | subE
  /-- `SUB H`, 0x94, R139. -/
  | subH
  /-- `SUB L`, 0x95, R139. -/
  | subL
  /-- `SUB (HL)`, 0x96, R140. -/
  | subMemHl
  /-- `SUB A`, 0x97, R139. -/
  | subA
  /-- `SBC A,B`, 0x98, R142. -/
  | sbcAB
  /-- `SBC A,C`, 0x99, R142. -/
  | sbcAC
  /-- `SBC A,D`, 0x9A, R142. -/
  | sbcAD
  /-- `SBC A,E`, 0x9B, R142. -/
  | sbcAE
  /-- `SBC A,H`, 0x9C, R142. -/
  | sbcAH
  /-- `SBC A,L`, 0x9D, R142. -/
  | sbcAL
  /-- `SBC A,(HL)`, 0x9E, R143. -/
  | sbcAMemHl
  /-- `SBC A,A`, 0x9F, R142. -/
  | sbcAA
  /-- `AND B`, 0xA0, R145. -/
  | andB
  /-- `AND C`, 0xA1, R145. -/
  | andC
  /-- `AND D`, 0xA2, R145. -/
  | andD
  /-- `AND E`, 0xA3, R145. -/
  | andE
  /-- `AND H`, 0xA4, R145. -/
  | andH
  /-- `AND L`, 0xA5, R145. -/
  | andL
  /-- `AND (HL)`, 0xA6, R146. -/
  | andMemHl
  /-- `AND A`, 0xA7, R145. -/
  | andA
  /-- `XOR B`, 0xA8, R148. -/
  | xorB
  /-- `XOR C`, 0xA9, R148. -/
  | xorC
  /-- `XOR D`, 0xAA, R148. -/
  | xorD
  /-- `XOR E`, 0xAB, R148. -/
  | xorE
  /-- `XOR H`, 0xAC, R148. -/
  | xorH
  /-- `XOR L`, 0xAD, R148. -/
  | xorL
  /-- `XOR (HL)`, 0xAE, R149. -/
  | xorMemHl
  /-- `XOR A`, 0xAF, R148. -/
  | xorA
  /-- `OR B`, 0xB0, R151. -/
  | orB
  /-- `OR C`, 0xB1, R151. -/
  | orC
  /-- `OR D`, 0xB2, R151. -/
  | orD
  /-- `OR E`, 0xB3, R151. -/
  | orE
  /-- `OR H`, 0xB4, R151. -/
  | orH
  /-- `OR L`, 0xB5, R151. -/
  | orL
  /-- `OR (HL)`, 0xB6, R152. -/
  | orMemHl
  /-- `OR A`, 0xB7, R151. -/
  | orA
  /-- `CP B`, 0xB8, R154. -/
  | cpB
  /-- `CP C`, 0xB9, R154. -/
  | cpC
  /-- `CP D`, 0xBA, R154. -/
  | cpD
  /-- `CP E`, 0xBB, R154. -/
  | cpE
  /-- `CP H`, 0xBC, R154. -/
  | cpH
  /-- `CP L`, 0xBD, R154. -/
  | cpL
  /-- `CP (HL)`, 0xBE, R155. -/
  | cpMemHl
  /-- `CP A`, 0xBF, R154. -/
  | cpA
  /-- `RET NZ`, 0xC0, R239. -/
  | retNz
  /-- `POP BC`, 0xC1, R251. -/
  | popBc
  /-- `PUSH BC`, 0xC5, R250. -/
  | pushBc
  /-- `RST 0x00`, 0xC7, R241. -/
  | rst00
  /-- `RET Z`, 0xC8, R239. -/
  | retZ
  /-- `RET`, 0xC9, R238. -/
  | ret
  /-- `PREFIX CB`, 0xCB, R275. -/
  | prefixCb
  /-- `RST 0x08`, 0xCF, R241. -/
  | rst08
  /-- `RET NC`, 0xD0, R239. -/
  | retNc
  /-- `POP DE`, 0xD1, R251. -/
  | popDe
  /-- `ILLEGAL`, 0xD3, R276. -/
  | illegalD3
  /-- `PUSH DE`, 0xD5, R250. -/
  | pushDe
  /-- `RST 0x10`, 0xD7, R241. -/
  | rst10
  /-- `RET C`, 0xD8, R239. -/
  | retC
  /-- `RETI`, 0xD9, R240. -/
  | reti
  /-- `ILLEGAL`, 0xDB, R276. -/
  | illegalDB
  /-- `ILLEGAL`, 0xDD, R276. -/
  | illegalDD
  /-- `RST 0x18`, 0xDF, R241. -/
  | rst18
  /-- `POP HL`, 0xE1, R251. -/
  | popHl
  /-- `LD (C),A`, 0xE2, R117. -/
  | ldMemCA
  /-- `ILLEGAL`, 0xE3, R276. -/
  | illegalE3
  /-- `ILLEGAL`, 0xE4, R276. -/
  | illegalE4
  /-- `PUSH HL`, 0xE5, R250. -/
  | pushHl
  /-- `RST 0x20`, 0xE7, R241. -/
  | rst20
  /-- `JP HL`, 0xE9, R235. -/
  | jpHl
  /-- `ILLEGAL`, 0xEB, R276. -/
  | illegalEB
  /-- `ILLEGAL`, 0xEC, R276. -/
  | illegalEC
  /-- `ILLEGAL`, 0xED, R276. -/
  | illegalED
  /-- `RST 0x28`, 0xEF, R241. -/
  | rst28
  /-- `POP AF`, 0xF1, R252. -/
  | popAf
  /-- `LD A,(C)`, 0xF2, R118. -/
  | ldAMemC
  /-- `DI`, 0xF3, R273. -/
  | di
  /-- `ILLEGAL`, 0xF4, R276. -/
  | illegalF4
  /-- `PUSH AF`, 0xF5, R250. -/
  | pushAf
  /-- `RST 0x30`, 0xF7, R241. -/
  | rst30
  /-- `LD SP,HL`, 0xF9, R255. -/
  | ldSpHl
  /-- `EI`, 0xFB, R274. -/
  | ei
  /-- `ILLEGAL`, 0xFC, R276. -/
  | illegalFC
  /-- `ILLEGAL`, 0xFD, R276. -/
  | illegalFD
  /-- `RST 0x38`, 0xFF, R241. -/
  | rst38
  /-- `RLC B`, 0xCB 0x00, R185. -/
  | rlcB
  /-- `RLC C`, 0xCB 0x01, R185. -/
  | rlcC
  /-- `RLC D`, 0xCB 0x02, R185. -/
  | rlcD
  /-- `RLC E`, 0xCB 0x03, R185. -/
  | rlcE
  /-- `RLC H`, 0xCB 0x04, R185. -/
  | rlcH
  /-- `RLC L`, 0xCB 0x05, R185. -/
  | rlcL
  /-- `RLC (HL)`, 0xCB 0x06, R186. -/
  | rlcMemHl
  /-- `RLC A`, 0xCB 0x07, R185. -/
  | rlcA
  /-- `RRC B`, 0xCB 0x08, R187. -/
  | rrcB
  /-- `RRC C`, 0xCB 0x09, R187. -/
  | rrcC
  /-- `RRC D`, 0xCB 0x0A, R187. -/
  | rrcD
  /-- `RRC E`, 0xCB 0x0B, R187. -/
  | rrcE
  /-- `RRC H`, 0xCB 0x0C, R187. -/
  | rrcH
  /-- `RRC L`, 0xCB 0x0D, R187. -/
  | rrcL
  /-- `RRC (HL)`, 0xCB 0x0E, R188. -/
  | rrcMemHl
  /-- `RRC A`, 0xCB 0x0F, R187. -/
  | rrcA
  /-- `RL B`, 0xCB 0x10, R189. -/
  | rlB
  /-- `RL C`, 0xCB 0x11, R189. -/
  | rlC
  /-- `RL D`, 0xCB 0x12, R189. -/
  | rlD
  /-- `RL E`, 0xCB 0x13, R189. -/
  | rlE
  /-- `RL H`, 0xCB 0x14, R189. -/
  | rlH
  /-- `RL L`, 0xCB 0x15, R189. -/
  | rlL
  /-- `RL (HL)`, 0xCB 0x16, R190. -/
  | rlMemHl
  /-- `RL A`, 0xCB 0x17, R189. -/
  | rlA
  /-- `RR B`, 0xCB 0x18, R191. -/
  | rrB
  /-- `RR C`, 0xCB 0x19, R191. -/
  | rrC
  /-- `RR D`, 0xCB 0x1A, R191. -/
  | rrD
  /-- `RR E`, 0xCB 0x1B, R191. -/
  | rrE
  /-- `RR H`, 0xCB 0x1C, R191. -/
  | rrH
  /-- `RR L`, 0xCB 0x1D, R191. -/
  | rrL
  /-- `RR (HL)`, 0xCB 0x1E, R192. -/
  | rrMemHl
  /-- `RR A`, 0xCB 0x1F, R191. -/
  | rrA
  /-- `SLA B`, 0xCB 0x20, R193. -/
  | slaB
  /-- `SLA C`, 0xCB 0x21, R193. -/
  | slaC
  /-- `SLA D`, 0xCB 0x22, R193. -/
  | slaD
  /-- `SLA E`, 0xCB 0x23, R193. -/
  | slaE
  /-- `SLA H`, 0xCB 0x24, R193. -/
  | slaH
  /-- `SLA L`, 0xCB 0x25, R193. -/
  | slaL
  /-- `SLA (HL)`, 0xCB 0x26, R194. -/
  | slaMemHl
  /-- `SLA A`, 0xCB 0x27, R193. -/
  | slaA
  /-- `SRA B`, 0xCB 0x28, R195. -/
  | sraB
  /-- `SRA C`, 0xCB 0x29, R195. -/
  | sraC
  /-- `SRA D`, 0xCB 0x2A, R195. -/
  | sraD
  /-- `SRA E`, 0xCB 0x2B, R195. -/
  | sraE
  /-- `SRA H`, 0xCB 0x2C, R195. -/
  | sraH
  /-- `SRA L`, 0xCB 0x2D, R195. -/
  | sraL
  /-- `SRA (HL)`, 0xCB 0x2E, R196. -/
  | sraMemHl
  /-- `SRA A`, 0xCB 0x2F, R195. -/
  | sraA
  /-- `SWAP B`, 0xCB 0x30, R197. -/
  | swapB
  /-- `SWAP C`, 0xCB 0x31, R197. -/
  | swapC
  /-- `SWAP D`, 0xCB 0x32, R197. -/
  | swapD
  /-- `SWAP E`, 0xCB 0x33, R197. -/
  | swapE
  /-- `SWAP H`, 0xCB 0x34, R197. -/
  | swapH
  /-- `SWAP L`, 0xCB 0x35, R197. -/
  | swapL
  /-- `SWAP (HL)`, 0xCB 0x36, R198. -/
  | swapMemHl
  /-- `SWAP A`, 0xCB 0x37, R197. -/
  | swapA
  /-- `SRL B`, 0xCB 0x38, R199. -/
  | srlB
  /-- `SRL C`, 0xCB 0x39, R199. -/
  | srlC
  /-- `SRL D`, 0xCB 0x3A, R199. -/
  | srlD
  /-- `SRL E`, 0xCB 0x3B, R199. -/
  | srlE
  /-- `SRL H`, 0xCB 0x3C, R199. -/
  | srlH
  /-- `SRL L`, 0xCB 0x3D, R199. -/
  | srlL
  /-- `SRL (HL)`, 0xCB 0x3E, R200. -/
  | srlMemHl
  /-- `SRL A`, 0xCB 0x3F, R199. -/
  | srlA
  /-- `BIT 0,B`, 0xCB 0x40, R210. -/
  | bit0B
  /-- `BIT 0,C`, 0xCB 0x41, R210. -/
  | bit0C
  /-- `BIT 0,D`, 0xCB 0x42, R210. -/
  | bit0D
  /-- `BIT 0,E`, 0xCB 0x43, R210. -/
  | bit0E
  /-- `BIT 0,H`, 0xCB 0x44, R210. -/
  | bit0H
  /-- `BIT 0,L`, 0xCB 0x45, R210. -/
  | bit0L
  /-- `BIT 0,(HL)`, 0xCB 0x46, R211. -/
  | bit0MemHl
  /-- `BIT 0,A`, 0xCB 0x47, R210. -/
  | bit0A
  /-- `BIT 1,B`, 0xCB 0x48, R210. -/
  | bit1B
  /-- `BIT 1,C`, 0xCB 0x49, R210. -/
  | bit1C
  /-- `BIT 1,D`, 0xCB 0x4A, R210. -/
  | bit1D
  /-- `BIT 1,E`, 0xCB 0x4B, R210. -/
  | bit1E
  /-- `BIT 1,H`, 0xCB 0x4C, R210. -/
  | bit1H
  /-- `BIT 1,L`, 0xCB 0x4D, R210. -/
  | bit1L
  /-- `BIT 1,(HL)`, 0xCB 0x4E, R211. -/
  | bit1MemHl
  /-- `BIT 1,A`, 0xCB 0x4F, R210. -/
  | bit1A
  /-- `BIT 2,B`, 0xCB 0x50, R210. -/
  | bit2B
  /-- `BIT 2,C`, 0xCB 0x51, R210. -/
  | bit2C
  /-- `BIT 2,D`, 0xCB 0x52, R210. -/
  | bit2D
  /-- `BIT 2,E`, 0xCB 0x53, R210. -/
  | bit2E
  /-- `BIT 2,H`, 0xCB 0x54, R210. -/
  | bit2H
  /-- `BIT 2,L`, 0xCB 0x55, R210. -/
  | bit2L
  /-- `BIT 2,(HL)`, 0xCB 0x56, R211. -/
  | bit2MemHl
  /-- `BIT 2,A`, 0xCB 0x57, R210. -/
  | bit2A
  /-- `BIT 3,B`, 0xCB 0x58, R210. -/
  | bit3B
  /-- `BIT 3,C`, 0xCB 0x59, R210. -/
  | bit3C
  /-- `BIT 3,D`, 0xCB 0x5A, R210. -/
  | bit3D
  /-- `BIT 3,E`, 0xCB 0x5B, R210. -/
  | bit3E
  /-- `BIT 3,H`, 0xCB 0x5C, R210. -/
  | bit3H
  /-- `BIT 3,L`, 0xCB 0x5D, R210. -/
  | bit3L
  /-- `BIT 3,(HL)`, 0xCB 0x5E, R211. -/
  | bit3MemHl
  /-- `BIT 3,A`, 0xCB 0x5F, R210. -/
  | bit3A
  /-- `BIT 4,B`, 0xCB 0x60, R210. -/
  | bit4B
  /-- `BIT 4,C`, 0xCB 0x61, R210. -/
  | bit4C
  /-- `BIT 4,D`, 0xCB 0x62, R210. -/
  | bit4D
  /-- `BIT 4,E`, 0xCB 0x63, R210. -/
  | bit4E
  /-- `BIT 4,H`, 0xCB 0x64, R210. -/
  | bit4H
  /-- `BIT 4,L`, 0xCB 0x65, R210. -/
  | bit4L
  /-- `BIT 4,(HL)`, 0xCB 0x66, R211. -/
  | bit4MemHl
  /-- `BIT 4,A`, 0xCB 0x67, R210. -/
  | bit4A
  /-- `BIT 5,B`, 0xCB 0x68, R210. -/
  | bit5B
  /-- `BIT 5,C`, 0xCB 0x69, R210. -/
  | bit5C
  /-- `BIT 5,D`, 0xCB 0x6A, R210. -/
  | bit5D
  /-- `BIT 5,E`, 0xCB 0x6B, R210. -/
  | bit5E
  /-- `BIT 5,H`, 0xCB 0x6C, R210. -/
  | bit5H
  /-- `BIT 5,L`, 0xCB 0x6D, R210. -/
  | bit5L
  /-- `BIT 5,(HL)`, 0xCB 0x6E, R211. -/
  | bit5MemHl
  /-- `BIT 5,A`, 0xCB 0x6F, R210. -/
  | bit5A
  /-- `BIT 6,B`, 0xCB 0x70, R210. -/
  | bit6B
  /-- `BIT 6,C`, 0xCB 0x71, R210. -/
  | bit6C
  /-- `BIT 6,D`, 0xCB 0x72, R210. -/
  | bit6D
  /-- `BIT 6,E`, 0xCB 0x73, R210. -/
  | bit6E
  /-- `BIT 6,H`, 0xCB 0x74, R210. -/
  | bit6H
  /-- `BIT 6,L`, 0xCB 0x75, R210. -/
  | bit6L
  /-- `BIT 6,(HL)`, 0xCB 0x76, R211. -/
  | bit6MemHl
  /-- `BIT 6,A`, 0xCB 0x77, R210. -/
  | bit6A
  /-- `BIT 7,B`, 0xCB 0x78, R210. -/
  | bit7B
  /-- `BIT 7,C`, 0xCB 0x79, R210. -/
  | bit7C
  /-- `BIT 7,D`, 0xCB 0x7A, R210. -/
  | bit7D
  /-- `BIT 7,E`, 0xCB 0x7B, R210. -/
  | bit7E
  /-- `BIT 7,H`, 0xCB 0x7C, R210. -/
  | bit7H
  /-- `BIT 7,L`, 0xCB 0x7D, R210. -/
  | bit7L
  /-- `BIT 7,(HL)`, 0xCB 0x7E, R211. -/
  | bit7MemHl
  /-- `BIT 7,A`, 0xCB 0x7F, R210. -/
  | bit7A
  /-- `RES 0,B`, 0xCB 0x80, R212. -/
  | res0B
  /-- `RES 0,C`, 0xCB 0x81, R212. -/
  | res0C
  /-- `RES 0,D`, 0xCB 0x82, R212. -/
  | res0D
  /-- `RES 0,E`, 0xCB 0x83, R212. -/
  | res0E
  /-- `RES 0,H`, 0xCB 0x84, R212. -/
  | res0H
  /-- `RES 0,L`, 0xCB 0x85, R212. -/
  | res0L
  /-- `RES 0,(HL)`, 0xCB 0x86, R213. -/
  | res0MemHl
  /-- `RES 0,A`, 0xCB 0x87, R212. -/
  | res0A
  /-- `RES 1,B`, 0xCB 0x88, R212. -/
  | res1B
  /-- `RES 1,C`, 0xCB 0x89, R212. -/
  | res1C
  /-- `RES 1,D`, 0xCB 0x8A, R212. -/
  | res1D
  /-- `RES 1,E`, 0xCB 0x8B, R212. -/
  | res1E
  /-- `RES 1,H`, 0xCB 0x8C, R212. -/
  | res1H
  /-- `RES 1,L`, 0xCB 0x8D, R212. -/
  | res1L
  /-- `RES 1,(HL)`, 0xCB 0x8E, R213. -/
  | res1MemHl
  /-- `RES 1,A`, 0xCB 0x8F, R212. -/
  | res1A
  /-- `RES 2,B`, 0xCB 0x90, R212. -/
  | res2B
  /-- `RES 2,C`, 0xCB 0x91, R212. -/
  | res2C
  /-- `RES 2,D`, 0xCB 0x92, R212. -/
  | res2D
  /-- `RES 2,E`, 0xCB 0x93, R212. -/
  | res2E
  /-- `RES 2,H`, 0xCB 0x94, R212. -/
  | res2H
  /-- `RES 2,L`, 0xCB 0x95, R212. -/
  | res2L
  /-- `RES 2,(HL)`, 0xCB 0x96, R213. -/
  | res2MemHl
  /-- `RES 2,A`, 0xCB 0x97, R212. -/
  | res2A
  /-- `RES 3,B`, 0xCB 0x98, R212. -/
  | res3B
  /-- `RES 3,C`, 0xCB 0x99, R212. -/
  | res3C
  /-- `RES 3,D`, 0xCB 0x9A, R212. -/
  | res3D
  /-- `RES 3,E`, 0xCB 0x9B, R212. -/
  | res3E
  /-- `RES 3,H`, 0xCB 0x9C, R212. -/
  | res3H
  /-- `RES 3,L`, 0xCB 0x9D, R212. -/
  | res3L
  /-- `RES 3,(HL)`, 0xCB 0x9E, R213. -/
  | res3MemHl
  /-- `RES 3,A`, 0xCB 0x9F, R212. -/
  | res3A
  /-- `RES 4,B`, 0xCB 0xA0, R212. -/
  | res4B
  /-- `RES 4,C`, 0xCB 0xA1, R212. -/
  | res4C
  /-- `RES 4,D`, 0xCB 0xA2, R212. -/
  | res4D
  /-- `RES 4,E`, 0xCB 0xA3, R212. -/
  | res4E
  /-- `RES 4,H`, 0xCB 0xA4, R212. -/
  | res4H
  /-- `RES 4,L`, 0xCB 0xA5, R212. -/
  | res4L
  /-- `RES 4,(HL)`, 0xCB 0xA6, R213. -/
  | res4MemHl
  /-- `RES 4,A`, 0xCB 0xA7, R212. -/
  | res4A
  /-- `RES 5,B`, 0xCB 0xA8, R212. -/
  | res5B
  /-- `RES 5,C`, 0xCB 0xA9, R212. -/
  | res5C
  /-- `RES 5,D`, 0xCB 0xAA, R212. -/
  | res5D
  /-- `RES 5,E`, 0xCB 0xAB, R212. -/
  | res5E
  /-- `RES 5,H`, 0xCB 0xAC, R212. -/
  | res5H
  /-- `RES 5,L`, 0xCB 0xAD, R212. -/
  | res5L
  /-- `RES 5,(HL)`, 0xCB 0xAE, R213. -/
  | res5MemHl
  /-- `RES 5,A`, 0xCB 0xAF, R212. -/
  | res5A
  /-- `RES 6,B`, 0xCB 0xB0, R212. -/
  | res6B
  /-- `RES 6,C`, 0xCB 0xB1, R212. -/
  | res6C
  /-- `RES 6,D`, 0xCB 0xB2, R212. -/
  | res6D
  /-- `RES 6,E`, 0xCB 0xB3, R212. -/
  | res6E
  /-- `RES 6,H`, 0xCB 0xB4, R212. -/
  | res6H
  /-- `RES 6,L`, 0xCB 0xB5, R212. -/
  | res6L
  /-- `RES 6,(HL)`, 0xCB 0xB6, R213. -/
  | res6MemHl
  /-- `RES 6,A`, 0xCB 0xB7, R212. -/
  | res6A
  /-- `RES 7,B`, 0xCB 0xB8, R212. -/
  | res7B
  /-- `RES 7,C`, 0xCB 0xB9, R212. -/
  | res7C
  /-- `RES 7,D`, 0xCB 0xBA, R212. -/
  | res7D
  /-- `RES 7,E`, 0xCB 0xBB, R212. -/
  | res7E
  /-- `RES 7,H`, 0xCB 0xBC, R212. -/
  | res7H
  /-- `RES 7,L`, 0xCB 0xBD, R212. -/
  | res7L
  /-- `RES 7,(HL)`, 0xCB 0xBE, R213. -/
  | res7MemHl
  /-- `RES 7,A`, 0xCB 0xBF, R212. -/
  | res7A
  /-- `SET 0,B`, 0xCB 0xC0, R214. -/
  | set0B
  /-- `SET 0,C`, 0xCB 0xC1, R214. -/
  | set0C
  /-- `SET 0,D`, 0xCB 0xC2, R214. -/
  | set0D
  /-- `SET 0,E`, 0xCB 0xC3, R214. -/
  | set0E
  /-- `SET 0,H`, 0xCB 0xC4, R214. -/
  | set0H
  /-- `SET 0,L`, 0xCB 0xC5, R214. -/
  | set0L
  /-- `SET 0,(HL)`, 0xCB 0xC6, R215. -/
  | set0MemHl
  /-- `SET 0,A`, 0xCB 0xC7, R214. -/
  | set0A
  /-- `SET 1,B`, 0xCB 0xC8, R214. -/
  | set1B
  /-- `SET 1,C`, 0xCB 0xC9, R214. -/
  | set1C
  /-- `SET 1,D`, 0xCB 0xCA, R214. -/
  | set1D
  /-- `SET 1,E`, 0xCB 0xCB, R214. -/
  | set1E
  /-- `SET 1,H`, 0xCB 0xCC, R214. -/
  | set1H
  /-- `SET 1,L`, 0xCB 0xCD, R214. -/
  | set1L
  /-- `SET 1,(HL)`, 0xCB 0xCE, R215. -/
  | set1MemHl
  /-- `SET 1,A`, 0xCB 0xCF, R214. -/
  | set1A
  /-- `SET 2,B`, 0xCB 0xD0, R214. -/
  | set2B
  /-- `SET 2,C`, 0xCB 0xD1, R214. -/
  | set2C
  /-- `SET 2,D`, 0xCB 0xD2, R214. -/
  | set2D
  /-- `SET 2,E`, 0xCB 0xD3, R214. -/
  | set2E
  /-- `SET 2,H`, 0xCB 0xD4, R214. -/
  | set2H
  /-- `SET 2,L`, 0xCB 0xD5, R214. -/
  | set2L
  /-- `SET 2,(HL)`, 0xCB 0xD6, R215. -/
  | set2MemHl
  /-- `SET 2,A`, 0xCB 0xD7, R214. -/
  | set2A
  /-- `SET 3,B`, 0xCB 0xD8, R214. -/
  | set3B
  /-- `SET 3,C`, 0xCB 0xD9, R214. -/
  | set3C
  /-- `SET 3,D`, 0xCB 0xDA, R214. -/
  | set3D
  /-- `SET 3,E`, 0xCB 0xDB, R214. -/
  | set3E
  /-- `SET 3,H`, 0xCB 0xDC, R214. -/
  | set3H
  /-- `SET 3,L`, 0xCB 0xDD, R214. -/
  | set3L
  /-- `SET 3,(HL)`, 0xCB 0xDE, R215. -/
  | set3MemHl
  /-- `SET 3,A`, 0xCB 0xDF, R214. -/
  | set3A
  /-- `SET 4,B`, 0xCB 0xE0, R214. -/
  | set4B
  /-- `SET 4,C`, 0xCB 0xE1, R214. -/
  | set4C
  /-- `SET 4,D`, 0xCB 0xE2, R214. -/
  | set4D
  /-- `SET 4,E`, 0xCB 0xE3, R214. -/
  | set4E
  /-- `SET 4,H`, 0xCB 0xE4, R214. -/
  | set4H
  /-- `SET 4,L`, 0xCB 0xE5, R214. -/
  | set4L
  /-- `SET 4,(HL)`, 0xCB 0xE6, R215. -/
  | set4MemHl
  /-- `SET 4,A`, 0xCB 0xE7, R214. -/
  | set4A
  /-- `SET 5,B`, 0xCB 0xE8, R214. -/
  | set5B
  /-- `SET 5,C`, 0xCB 0xE9, R214. -/
  | set5C
  /-- `SET 5,D`, 0xCB 0xEA, R214. -/
  | set5D
  /-- `SET 5,E`, 0xCB 0xEB, R214. -/
  | set5E
  /-- `SET 5,H`, 0xCB 0xEC, R214. -/
  | set5H
  /-- `SET 5,L`, 0xCB 0xED, R214. -/
  | set5L
  /-- `SET 5,(HL)`, 0xCB 0xEE, R215. -/
  | set5MemHl
  /-- `SET 5,A`, 0xCB 0xEF, R214. -/
  | set5A
  /-- `SET 6,B`, 0xCB 0xF0, R214. -/
  | set6B
  /-- `SET 6,C`, 0xCB 0xF1, R214. -/
  | set6C
  /-- `SET 6,D`, 0xCB 0xF2, R214. -/
  | set6D
  /-- `SET 6,E`, 0xCB 0xF3, R214. -/
  | set6E
  /-- `SET 6,H`, 0xCB 0xF4, R214. -/
  | set6H
  /-- `SET 6,L`, 0xCB 0xF5, R214. -/
  | set6L
  /-- `SET 6,(HL)`, 0xCB 0xF6, R215. -/
  | set6MemHl
  /-- `SET 6,A`, 0xCB 0xF7, R214. -/
  | set6A
  /-- `SET 7,B`, 0xCB 0xF8, R214. -/
  | set7B
  /-- `SET 7,C`, 0xCB 0xF9, R214. -/
  | set7C
  /-- `SET 7,D`, 0xCB 0xFA, R214. -/
  | set7D
  /-- `SET 7,E`, 0xCB 0xFB, R214. -/
  | set7E
  /-- `SET 7,H`, 0xCB 0xFC, R214. -/
  | set7H
  /-- `SET 7,L`, 0xCB 0xFD, R214. -/
  | set7L
  /-- `SET 7,(HL)`, 0xCB 0xFE, R215. -/
  | set7MemHl
  /-- `SET 7,A`, 0xCB 0xFF, R214. -/
  | set7A
  deriving DecidableEq, Repr

namespace Instr

/-- LD r8,r8' (40_load8.md R100). -/
def ldReg : R8 → R8 → Instr
  | .b, .b => .ldBB
  | .b, .c => .ldBC
  | .b, .d => .ldBD
  | .b, .e => .ldBE
  | .b, .h => .ldBH
  | .b, .l => .ldBL
  | .b, .a => .ldBA
  | .c, .b => .ldCB
  | .c, .c => .ldCC
  | .c, .d => .ldCD
  | .c, .e => .ldCE
  | .c, .h => .ldCH
  | .c, .l => .ldCL
  | .c, .a => .ldCA
  | .d, .b => .ldDB
  | .d, .c => .ldDC
  | .d, .d => .ldDD
  | .d, .e => .ldDE
  | .d, .h => .ldDH
  | .d, .l => .ldDL
  | .d, .a => .ldDA
  | .e, .b => .ldEB
  | .e, .c => .ldEC
  | .e, .d => .ldED
  | .e, .e => .ldEE
  | .e, .h => .ldEH
  | .e, .l => .ldEL
  | .e, .a => .ldEA
  | .h, .b => .ldHB
  | .h, .c => .ldHC
  | .h, .d => .ldHD
  | .h, .e => .ldHE
  | .h, .h => .ldHH
  | .h, .l => .ldHL
  | .h, .a => .ldHA
  | .l, .b => .ldLB
  | .l, .c => .ldLC
  | .l, .d => .ldLD
  | .l, .e => .ldLE
  | .l, .h => .ldLH
  | .l, .l => .ldLL
  | .l, .a => .ldLA
  | .a, .b => .ldAB
  | .a, .c => .ldAC
  | .a, .d => .ldAD
  | .a, .e => .ldAE
  | .a, .h => .ldAH
  | .a, .l => .ldAL
  | .a, .a => .ldAA

/-- LD r8,(HL) (R101). -/
def ldRegMem : R8 → Instr
  | .b => .ldBMemHl
  | .c => .ldCMemHl
  | .d => .ldDMemHl
  | .e => .ldEMemHl
  | .h => .ldHMemHl
  | .l => .ldLMemHl
  | .a => .ldAMemHl

/-- LD (HL),r8 (R102). -/
def ldMemReg : R8 → Instr
  | .b => .ldMemHlB
  | .c => .ldMemHlC
  | .d => .ldMemHlD
  | .e => .ldMemHlE
  | .h => .ldMemHlH
  | .l => .ldMemHlL
  | .a => .ldMemHlA

/-- LD r8,n8 (R103). -/
def ldRegN8 (r : R8) (n8 : Byte) : Instr :=
  match r with
  | .b => .ldBN8 n8
  | .c => .ldCN8 n8
  | .d => .ldDN8 n8
  | .e => .ldEN8 n8
  | .h => .ldHN8 n8
  | .l => .ldLN8 n8
  | .a => .ldAN8 n8

/-- ALU[y] A,r8 (41_alu8.md R133, R136, R139, R142, R145, R148, R151, R154). -/
def aluReg : AluOp → R8 → Instr
  | .add, .b => .addAB
  | .add, .c => .addAC
  | .add, .d => .addAD
  | .add, .e => .addAE
  | .add, .h => .addAH
  | .add, .l => .addAL
  | .add, .a => .addAA
  | .adc, .b => .adcAB
  | .adc, .c => .adcAC
  | .adc, .d => .adcAD
  | .adc, .e => .adcAE
  | .adc, .h => .adcAH
  | .adc, .l => .adcAL
  | .adc, .a => .adcAA
  | .sub, .b => .subB
  | .sub, .c => .subC
  | .sub, .d => .subD
  | .sub, .e => .subE
  | .sub, .h => .subH
  | .sub, .l => .subL
  | .sub, .a => .subA
  | .sbc, .b => .sbcAB
  | .sbc, .c => .sbcAC
  | .sbc, .d => .sbcAD
  | .sbc, .e => .sbcAE
  | .sbc, .h => .sbcAH
  | .sbc, .l => .sbcAL
  | .sbc, .a => .sbcAA
  | .and, .b => .andB
  | .and, .c => .andC
  | .and, .d => .andD
  | .and, .e => .andE
  | .and, .h => .andH
  | .and, .l => .andL
  | .and, .a => .andA
  | .xor, .b => .xorB
  | .xor, .c => .xorC
  | .xor, .d => .xorD
  | .xor, .e => .xorE
  | .xor, .h => .xorH
  | .xor, .l => .xorL
  | .xor, .a => .xorA
  | .or, .b => .orB
  | .or, .c => .orC
  | .or, .d => .orD
  | .or, .e => .orE
  | .or, .h => .orH
  | .or, .l => .orL
  | .or, .a => .orA
  | .cp, .b => .cpB
  | .cp, .c => .cpC
  | .cp, .d => .cpD
  | .cp, .e => .cpE
  | .cp, .h => .cpH
  | .cp, .l => .cpL
  | .cp, .a => .cpA

/-- ALU[y] A,(HL) (R134, R137, R140, R143, R146, R149, R152, R155). -/
def aluMem : AluOp → Instr
  | .add => .addAMemHl
  | .adc => .adcAMemHl
  | .sub => .subMemHl
  | .sbc => .sbcAMemHl
  | .and => .andMemHl
  | .xor => .xorMemHl
  | .or => .orMemHl
  | .cp => .cpMemHl

/-- ALU[y] A,n8 (R135, R138, R141, R144, R147, R150, R153, R156). -/
def aluN8 (op : AluOp) (n8 : Byte) : Instr :=
  match op with
  | .add => .addAN8 n8
  | .adc => .adcAN8 n8
  | .sub => .subN8 n8
  | .sbc => .sbcAN8 n8
  | .and => .andN8 n8
  | .xor => .xorN8 n8
  | .or => .orN8 n8
  | .cp => .cpN8 n8

/-- INC r8 (R157). -/
def incReg : R8 → Instr
  | .b => .incB
  | .c => .incC
  | .d => .incD
  | .e => .incE
  | .h => .incH
  | .l => .incL
  | .a => .incA

/-- DEC r8 (R159). -/
def decReg : R8 → Instr
  | .b => .decB
  | .c => .decC
  | .d => .decD
  | .e => .decE
  | .h => .decH
  | .l => .decL
  | .a => .decA

/-- INC r16 (42_alu16.md R170). -/
def incPair : Rp → Instr
  | .bc => .incBc
  | .de => .incDe
  | .hl => .incHl
  | .sp => .incSp

/-- DEC r16 (R171). -/
def decPair : Rp → Instr
  | .bc => .decBc
  | .de => .decDe
  | .hl => .decHl
  | .sp => .decSp

/-- ADD HL,r16 (R172). -/
def addHl : Rp → Instr
  | .bc => .addHlBc
  | .de => .addHlDe
  | .hl => .addHlHl
  | .sp => .addHlSp

/-- LD r16,n16 (47_stack_sp.md R253). -/
def ldPairN16 (p : Rp) (n16 : Word) : Instr :=
  match p with
  | .bc => .ldBcN16 n16
  | .de => .ldDeN16 n16
  | .hl => .ldHlN16 n16
  | .sp => .ldSpN16 n16

/-- PUSH r16 (R250). -/
def push : Rp2 → Instr
  | .bc => .pushBc
  | .de => .pushDe
  | .hl => .pushHl
  | .af => .pushAf

/-- POP r16 and POP AF (R251, R252). -/
def pop : Rp2 → Instr
  | .bc => .popBc
  | .de => .popDe
  | .hl => .popHl
  | .af => .popAf

/-- JR cc,e8 (46_control.md R232). -/
def jrIf (cc : Cond) (e8 : Byte) : Instr :=
  match cc with
  | .nz => .jrNzE8 e8
  | .z => .jrZE8 e8
  | .nc => .jrNcE8 e8
  | .c => .jrCE8 e8

/-- JP cc,a16 (R234). -/
def jpIf (cc : Cond) (a16 : Word) : Instr :=
  match cc with
  | .nz => .jpNzA16 a16
  | .z => .jpZA16 a16
  | .nc => .jpNcA16 a16
  | .c => .jpCA16 a16

/-- CALL cc,a16 (R237). -/
def callIf (cc : Cond) (a16 : Word) : Instr :=
  match cc with
  | .nz => .callNzA16 a16
  | .z => .callZA16 a16
  | .nc => .callNcA16 a16
  | .c => .callCA16 a16

/-- RET cc (R239). -/
def retIf : Cond → Instr
  | .nz => .retNz
  | .z => .retZ
  | .nc => .retNc
  | .c => .retC

/-- RST y*8 (R241). -/
def rst : Fin 8 → Instr
  | 0 => .rst00
  | 1 => .rst08
  | 2 => .rst10
  | 3 => .rst18
  | 4 => .rst20
  | 5 => .rst28
  | 6 => .rst30
  | 7 => .rst38

/-- ROT[y] r8 (43_rotate_shift.md R185 to R199, odd). -/
def rotReg : RotOp → R8 → Instr
  | .rlc, .b => .rlcB
  | .rlc, .c => .rlcC
  | .rlc, .d => .rlcD
  | .rlc, .e => .rlcE
  | .rlc, .h => .rlcH
  | .rlc, .l => .rlcL
  | .rlc, .a => .rlcA
  | .rrc, .b => .rrcB
  | .rrc, .c => .rrcC
  | .rrc, .d => .rrcD
  | .rrc, .e => .rrcE
  | .rrc, .h => .rrcH
  | .rrc, .l => .rrcL
  | .rrc, .a => .rrcA
  | .rl, .b => .rlB
  | .rl, .c => .rlC
  | .rl, .d => .rlD
  | .rl, .e => .rlE
  | .rl, .h => .rlH
  | .rl, .l => .rlL
  | .rl, .a => .rlA
  | .rr, .b => .rrB
  | .rr, .c => .rrC
  | .rr, .d => .rrD
  | .rr, .e => .rrE
  | .rr, .h => .rrH
  | .rr, .l => .rrL
  | .rr, .a => .rrA
  | .sla, .b => .slaB
  | .sla, .c => .slaC
  | .sla, .d => .slaD
  | .sla, .e => .slaE
  | .sla, .h => .slaH
  | .sla, .l => .slaL
  | .sla, .a => .slaA
  | .sra, .b => .sraB
  | .sra, .c => .sraC
  | .sra, .d => .sraD
  | .sra, .e => .sraE
  | .sra, .h => .sraH
  | .sra, .l => .sraL
  | .sra, .a => .sraA
  | .swap, .b => .swapB
  | .swap, .c => .swapC
  | .swap, .d => .swapD
  | .swap, .e => .swapE
  | .swap, .h => .swapH
  | .swap, .l => .swapL
  | .swap, .a => .swapA
  | .srl, .b => .srlB
  | .srl, .c => .srlC
  | .srl, .d => .srlD
  | .srl, .e => .srlE
  | .srl, .h => .srlH
  | .srl, .l => .srlL
  | .srl, .a => .srlA

/-- ROT[y] (HL) (R186 to R200, even). -/
def rotMem : RotOp → Instr
  | .rlc => .rlcMemHl
  | .rrc => .rrcMemHl
  | .rl => .rlMemHl
  | .rr => .rrMemHl
  | .sla => .slaMemHl
  | .sra => .sraMemHl
  | .swap => .swapMemHl
  | .srl => .srlMemHl

/-- BIT b,r8 (44_bit.md R210). -/
def bitReg : Fin 8 → R8 → Instr
  | 0, .b => .bit0B
  | 0, .c => .bit0C
  | 0, .d => .bit0D
  | 0, .e => .bit0E
  | 0, .h => .bit0H
  | 0, .l => .bit0L
  | 0, .a => .bit0A
  | 1, .b => .bit1B
  | 1, .c => .bit1C
  | 1, .d => .bit1D
  | 1, .e => .bit1E
  | 1, .h => .bit1H
  | 1, .l => .bit1L
  | 1, .a => .bit1A
  | 2, .b => .bit2B
  | 2, .c => .bit2C
  | 2, .d => .bit2D
  | 2, .e => .bit2E
  | 2, .h => .bit2H
  | 2, .l => .bit2L
  | 2, .a => .bit2A
  | 3, .b => .bit3B
  | 3, .c => .bit3C
  | 3, .d => .bit3D
  | 3, .e => .bit3E
  | 3, .h => .bit3H
  | 3, .l => .bit3L
  | 3, .a => .bit3A
  | 4, .b => .bit4B
  | 4, .c => .bit4C
  | 4, .d => .bit4D
  | 4, .e => .bit4E
  | 4, .h => .bit4H
  | 4, .l => .bit4L
  | 4, .a => .bit4A
  | 5, .b => .bit5B
  | 5, .c => .bit5C
  | 5, .d => .bit5D
  | 5, .e => .bit5E
  | 5, .h => .bit5H
  | 5, .l => .bit5L
  | 5, .a => .bit5A
  | 6, .b => .bit6B
  | 6, .c => .bit6C
  | 6, .d => .bit6D
  | 6, .e => .bit6E
  | 6, .h => .bit6H
  | 6, .l => .bit6L
  | 6, .a => .bit6A
  | 7, .b => .bit7B
  | 7, .c => .bit7C
  | 7, .d => .bit7D
  | 7, .e => .bit7E
  | 7, .h => .bit7H
  | 7, .l => .bit7L
  | 7, .a => .bit7A

/-- BIT b,(HL) (R211). -/
def bitMem : Fin 8 → Instr
  | 0 => .bit0MemHl
  | 1 => .bit1MemHl
  | 2 => .bit2MemHl
  | 3 => .bit3MemHl
  | 4 => .bit4MemHl
  | 5 => .bit5MemHl
  | 6 => .bit6MemHl
  | 7 => .bit7MemHl

/-- RES b,r8 (44_bit.md R212). -/
def resReg : Fin 8 → R8 → Instr
  | 0, .b => .res0B
  | 0, .c => .res0C
  | 0, .d => .res0D
  | 0, .e => .res0E
  | 0, .h => .res0H
  | 0, .l => .res0L
  | 0, .a => .res0A
  | 1, .b => .res1B
  | 1, .c => .res1C
  | 1, .d => .res1D
  | 1, .e => .res1E
  | 1, .h => .res1H
  | 1, .l => .res1L
  | 1, .a => .res1A
  | 2, .b => .res2B
  | 2, .c => .res2C
  | 2, .d => .res2D
  | 2, .e => .res2E
  | 2, .h => .res2H
  | 2, .l => .res2L
  | 2, .a => .res2A
  | 3, .b => .res3B
  | 3, .c => .res3C
  | 3, .d => .res3D
  | 3, .e => .res3E
  | 3, .h => .res3H
  | 3, .l => .res3L
  | 3, .a => .res3A
  | 4, .b => .res4B
  | 4, .c => .res4C
  | 4, .d => .res4D
  | 4, .e => .res4E
  | 4, .h => .res4H
  | 4, .l => .res4L
  | 4, .a => .res4A
  | 5, .b => .res5B
  | 5, .c => .res5C
  | 5, .d => .res5D
  | 5, .e => .res5E
  | 5, .h => .res5H
  | 5, .l => .res5L
  | 5, .a => .res5A
  | 6, .b => .res6B
  | 6, .c => .res6C
  | 6, .d => .res6D
  | 6, .e => .res6E
  | 6, .h => .res6H
  | 6, .l => .res6L
  | 6, .a => .res6A
  | 7, .b => .res7B
  | 7, .c => .res7C
  | 7, .d => .res7D
  | 7, .e => .res7E
  | 7, .h => .res7H
  | 7, .l => .res7L
  | 7, .a => .res7A

/-- RES b,(HL) (R213). -/
def resMem : Fin 8 → Instr
  | 0 => .res0MemHl
  | 1 => .res1MemHl
  | 2 => .res2MemHl
  | 3 => .res3MemHl
  | 4 => .res4MemHl
  | 5 => .res5MemHl
  | 6 => .res6MemHl
  | 7 => .res7MemHl

/-- SET b,r8 (44_bit.md R214). -/
def setReg : Fin 8 → R8 → Instr
  | 0, .b => .set0B
  | 0, .c => .set0C
  | 0, .d => .set0D
  | 0, .e => .set0E
  | 0, .h => .set0H
  | 0, .l => .set0L
  | 0, .a => .set0A
  | 1, .b => .set1B
  | 1, .c => .set1C
  | 1, .d => .set1D
  | 1, .e => .set1E
  | 1, .h => .set1H
  | 1, .l => .set1L
  | 1, .a => .set1A
  | 2, .b => .set2B
  | 2, .c => .set2C
  | 2, .d => .set2D
  | 2, .e => .set2E
  | 2, .h => .set2H
  | 2, .l => .set2L
  | 2, .a => .set2A
  | 3, .b => .set3B
  | 3, .c => .set3C
  | 3, .d => .set3D
  | 3, .e => .set3E
  | 3, .h => .set3H
  | 3, .l => .set3L
  | 3, .a => .set3A
  | 4, .b => .set4B
  | 4, .c => .set4C
  | 4, .d => .set4D
  | 4, .e => .set4E
  | 4, .h => .set4H
  | 4, .l => .set4L
  | 4, .a => .set4A
  | 5, .b => .set5B
  | 5, .c => .set5C
  | 5, .d => .set5D
  | 5, .e => .set5E
  | 5, .h => .set5H
  | 5, .l => .set5L
  | 5, .a => .set5A
  | 6, .b => .set6B
  | 6, .c => .set6C
  | 6, .d => .set6D
  | 6, .e => .set6E
  | 6, .h => .set6H
  | 6, .l => .set6L
  | 6, .a => .set6A
  | 7, .b => .set7B
  | 7, .c => .set7C
  | 7, .d => .set7D
  | 7, .e => .set7E
  | 7, .h => .set7H
  | 7, .l => .set7L
  | 7, .a => .set7A

/-- SET b,(HL) (R215). -/
def setMem : Fin 8 → Instr
  | 0 => .set0MemHl
  | 1 => .set1MemHl
  | 2 => .set2MemHl
  | 3 => .set3MemHl
  | 4 => .set4MemHl
  | 5 => .set5MemHl
  | 6 => .set6MemHl
  | 7 => .set7MemHl

end Instr

end Sys2Proof
end

