-- ==== Sys2Proof/WellFormed.lean ====
section
/-! DEFINITION. Well-formedness. Each operand's type has exactly the values its encoding admits
(30_encoding.md R63 to R71), so the one check left is that the term is a whole instruction. -/

namespace Sys2Proof

/-- A whole instruction: "Opcode 0xCB is not an instruction by itself" (48_system.md R275). -/
def Instr.wellFormed (i : Instr) : Bool := decide (i ≠ .prefixCb)

end Sys2Proof
end

