-- ==== Sys2Proof/Decode.lean ====
section
/-! DEFINITION. The decoder, from the opcode grids of 30_encoding.md (R72 to R77), and after it the
encoder, from the "match" words of spec/opcode_table.json. -/

namespace Sys2Proof

/-- `hi:lo` (00_scope.md section 5): the byte order of an immediate (30_encoding.md R64, log entry 6). -/
def immediate (hi lo : Byte) : Word := hi ++ lo

/-! ### The grids: one list per row of the spec's tables, the column is the low nibble -/

/-- Row 0x of the primary opcode map (R73). -/
def primaryRow0 (b1 b2 : Byte) : List Instr :=
  [.nop, .ldBcN16 (immediate b2 b1), .ldMemBcA, .incBc, .incB, .decB, .ldBN8 b1, .rlca,
   .ldMemA16Sp (immediate b2 b1), .addHlBc, .ldAMemBc, .decBc, .incC, .decC, .ldCN8 b1, .rrca]

/-- Row 1x of the primary opcode map (R73). -/
def primaryRow1 (b1 b2 : Byte) : List Instr :=
  [.stop, .ldDeN16 (immediate b2 b1), .ldMemDeA, .incDe, .incD, .decD, .ldDN8 b1, .rla, .jrE8 b1,
   .addHlDe, .ldAMemDe, .decDe, .incE, .decE, .ldEN8 b1, .rra]

/-- Row 2x of the primary opcode map (R73). -/
def primaryRow2 (b1 b2 : Byte) : List Instr :=
  [.jrNzE8 b1, .ldHlN16 (immediate b2 b1), .ldMemHlIncA, .incHl, .incH, .decH, .ldHN8 b1, .daa,
   .jrZE8 b1, .addHlHl, .ldAMemHlInc, .decHl, .incL, .decL, .ldLN8 b1, .cpl]

/-- Row 3x of the primary opcode map (R73). -/
def primaryRow3 (b1 b2 : Byte) : List Instr :=
  [.jrNcE8 b1, .ldSpN16 (immediate b2 b1), .ldMemHlDecA, .incSp, .incMemHl, .decMemHl,
   .ldMemHlN8 b1, .scf, .jrCE8 b1, .addHlSp, .ldAMemHlDec, .decSp, .incA, .decA, .ldAN8 b1, .ccf]

/-- Row 4x of the primary opcode map (R74). -/
def primaryRow4 : List Instr :=
  [.ldBB, .ldBC, .ldBD, .ldBE, .ldBH, .ldBL, .ldBMemHl, .ldBA, .ldCB, .ldCC, .ldCD, .ldCE, .ldCH,
   .ldCL, .ldCMemHl, .ldCA]

/-- Row 5x of the primary opcode map (R74). -/
def primaryRow5 : List Instr :=
  [.ldDB, .ldDC, .ldDD, .ldDE, .ldDH, .ldDL, .ldDMemHl, .ldDA, .ldEB, .ldEC, .ldED, .ldEE, .ldEH,
   .ldEL, .ldEMemHl, .ldEA]

/-- Row 6x of the primary opcode map (R74). -/
def primaryRow6 : List Instr :=
  [.ldHB, .ldHC, .ldHD, .ldHE, .ldHH, .ldHL, .ldHMemHl, .ldHA, .ldLB, .ldLC, .ldLD, .ldLE, .ldLH,
   .ldLL, .ldLMemHl, .ldLA]

/-- Row 7x of the primary opcode map (R74). -/
def primaryRow7 : List Instr :=
  [.ldMemHlB, .ldMemHlC, .ldMemHlD, .ldMemHlE, .ldMemHlH, .ldMemHlL, .halt, .ldMemHlA, .ldAB, .ldAC,
   .ldAD, .ldAE, .ldAH, .ldAL, .ldAMemHl, .ldAA]

/-- Row 8x of the primary opcode map (R75). -/
def primaryRow8 : List Instr :=
  [.addAB, .addAC, .addAD, .addAE, .addAH, .addAL, .addAMemHl, .addAA, .adcAB, .adcAC, .adcAD,
   .adcAE, .adcAH, .adcAL, .adcAMemHl, .adcAA]

/-- Row 9x of the primary opcode map (R75). -/
def primaryRow9 : List Instr :=
  [.subB, .subC, .subD, .subE, .subH, .subL, .subMemHl, .subA, .sbcAB, .sbcAC, .sbcAD, .sbcAE,
   .sbcAH, .sbcAL, .sbcAMemHl, .sbcAA]

/-- Row Ax of the primary opcode map (R75). -/
def primaryRowA : List Instr :=
  [.andB, .andC, .andD, .andE, .andH, .andL, .andMemHl, .andA, .xorB, .xorC, .xorD, .xorE, .xorH,
   .xorL, .xorMemHl, .xorA]

/-- Row Bx of the primary opcode map (R75). -/
def primaryRowB : List Instr :=
  [.orB, .orC, .orD, .orE, .orH, .orL, .orMemHl, .orA, .cpB, .cpC, .cpD, .cpE, .cpH, .cpL, .cpMemHl,
   .cpA]

/-- Row Cx of the primary opcode map (R76). -/
def primaryRowC (b1 b2 : Byte) : List Instr :=
  [.retNz, .popBc, .jpNzA16 (immediate b2 b1), .jpA16 (immediate b2 b1),
   .callNzA16 (immediate b2 b1), .pushBc, .addAN8 b1, .rst00, .retZ, .ret,
   .jpZA16 (immediate b2 b1), .prefixCb, .callZA16 (immediate b2 b1), .callA16 (immediate b2 b1),
   .adcAN8 b1, .rst08]

/-- Row Dx of the primary opcode map (R76). -/
def primaryRowD (b1 b2 : Byte) : List Instr :=
  [.retNc, .popDe, .jpNcA16 (immediate b2 b1), .illegalD3, .callNcA16 (immediate b2 b1), .pushDe,
   .subN8 b1, .rst10, .retC, .reti, .jpCA16 (immediate b2 b1), .illegalDB,
   .callCA16 (immediate b2 b1), .illegalDD, .sbcAN8 b1, .rst18]

/-- Row Ex of the primary opcode map (R76). -/
def primaryRowE (b1 b2 : Byte) : List Instr :=
  [.ldhMemA8A b1, .popHl, .ldMemCA, .illegalE3, .illegalE4, .pushHl, .andN8 b1, .rst20, .addSpE8 b1,
   .jpHl, .ldMemA16A (immediate b2 b1), .illegalEB, .illegalEC, .illegalED, .xorN8 b1, .rst28]

/-- Row Fx of the primary opcode map (R76). -/
def primaryRowF (b1 b2 : Byte) : List Instr :=
  [.ldhAMemA8 b1, .popAf, .ldAMemC, .di, .illegalF4, .pushAf, .orN8 b1, .rst30, .ldHlSpE8 b1,
   .ldSpHl, .ldAMemA16 (immediate b2 b1), .ei, .illegalFC, .illegalFD, .cpN8 b1, .rst38]

/-- The primary opcode map (30_encoding.md section 4), with the operand bytes `b1` and `b2`. -/
def primaryGrid (b1 b2 : Byte) : List (List Instr) :=
  [primaryRow0 b1 b2, primaryRow1 b1 b2, primaryRow2 b1 b2, primaryRow3 b1 b2, primaryRow4,
   primaryRow5, primaryRow6, primaryRow7, primaryRow8, primaryRow9, primaryRowA, primaryRowB,
   primaryRowC b1 b2, primaryRowD b1 b2, primaryRowE b1 b2, primaryRowF b1 b2]

/-- Row 0x of the 0xCB-prefixed map (R77). -/
def cbRow0 : List Instr :=
  [.rlcB, .rlcC, .rlcD, .rlcE, .rlcH, .rlcL, .rlcMemHl, .rlcA, .rrcB, .rrcC, .rrcD, .rrcE, .rrcH,
   .rrcL, .rrcMemHl, .rrcA]

/-- Row 1x of the 0xCB-prefixed map (R77). -/
def cbRow1 : List Instr :=
  [.rlB, .rlC, .rlD, .rlE, .rlH, .rlL, .rlMemHl, .rlA, .rrB, .rrC, .rrD, .rrE, .rrH, .rrL, .rrMemHl,
   .rrA]

/-- Row 2x of the 0xCB-prefixed map (R77). -/
def cbRow2 : List Instr :=
  [.slaB, .slaC, .slaD, .slaE, .slaH, .slaL, .slaMemHl, .slaA, .sraB, .sraC, .sraD, .sraE, .sraH,
   .sraL, .sraMemHl, .sraA]

/-- Row 3x of the 0xCB-prefixed map (R77). -/
def cbRow3 : List Instr :=
  [.swapB, .swapC, .swapD, .swapE, .swapH, .swapL, .swapMemHl, .swapA, .srlB, .srlC, .srlD, .srlE,
   .srlH, .srlL, .srlMemHl, .srlA]

/-- Row 4x of the 0xCB-prefixed map (R77). -/
def cbRow4 : List Instr :=
  [.bit0B, .bit0C, .bit0D, .bit0E, .bit0H, .bit0L, .bit0MemHl, .bit0A, .bit1B, .bit1C, .bit1D,
   .bit1E, .bit1H, .bit1L, .bit1MemHl, .bit1A]

/-- Row 5x of the 0xCB-prefixed map (R77). -/
def cbRow5 : List Instr :=
  [.bit2B, .bit2C, .bit2D, .bit2E, .bit2H, .bit2L, .bit2MemHl, .bit2A, .bit3B, .bit3C, .bit3D,
   .bit3E, .bit3H, .bit3L, .bit3MemHl, .bit3A]

/-- Row 6x of the 0xCB-prefixed map (R77). -/
def cbRow6 : List Instr :=
  [.bit4B, .bit4C, .bit4D, .bit4E, .bit4H, .bit4L, .bit4MemHl, .bit4A, .bit5B, .bit5C, .bit5D,
   .bit5E, .bit5H, .bit5L, .bit5MemHl, .bit5A]

/-- Row 7x of the 0xCB-prefixed map (R77). -/
def cbRow7 : List Instr :=
  [.bit6B, .bit6C, .bit6D, .bit6E, .bit6H, .bit6L, .bit6MemHl, .bit6A, .bit7B, .bit7C, .bit7D,
   .bit7E, .bit7H, .bit7L, .bit7MemHl, .bit7A]

/-- Row 8x of the 0xCB-prefixed map (R77). -/
def cbRow8 : List Instr :=
  [.res0B, .res0C, .res0D, .res0E, .res0H, .res0L, .res0MemHl, .res0A, .res1B, .res1C, .res1D,
   .res1E, .res1H, .res1L, .res1MemHl, .res1A]

/-- Row 9x of the 0xCB-prefixed map (R77). -/
def cbRow9 : List Instr :=
  [.res2B, .res2C, .res2D, .res2E, .res2H, .res2L, .res2MemHl, .res2A, .res3B, .res3C, .res3D,
   .res3E, .res3H, .res3L, .res3MemHl, .res3A]

/-- Row Ax of the 0xCB-prefixed map (R77). -/
def cbRowA : List Instr :=
  [.res4B, .res4C, .res4D, .res4E, .res4H, .res4L, .res4MemHl, .res4A, .res5B, .res5C, .res5D,
   .res5E, .res5H, .res5L, .res5MemHl, .res5A]

/-- Row Bx of the 0xCB-prefixed map (R77). -/
def cbRowB : List Instr :=
  [.res6B, .res6C, .res6D, .res6E, .res6H, .res6L, .res6MemHl, .res6A, .res7B, .res7C, .res7D,
   .res7E, .res7H, .res7L, .res7MemHl, .res7A]

/-- Row Cx of the 0xCB-prefixed map (R77). -/
def cbRowC : List Instr :=
  [.set0B, .set0C, .set0D, .set0E, .set0H, .set0L, .set0MemHl, .set0A, .set1B, .set1C, .set1D,
   .set1E, .set1H, .set1L, .set1MemHl, .set1A]

/-- Row Dx of the 0xCB-prefixed map (R77). -/
def cbRowD : List Instr :=
  [.set2B, .set2C, .set2D, .set2E, .set2H, .set2L, .set2MemHl, .set2A, .set3B, .set3C, .set3D,
   .set3E, .set3H, .set3L, .set3MemHl, .set3A]

/-- Row Ex of the 0xCB-prefixed map (R77). -/
def cbRowE : List Instr :=
  [.set4B, .set4C, .set4D, .set4E, .set4H, .set4L, .set4MemHl, .set4A, .set5B, .set5C, .set5D,
   .set5E, .set5H, .set5L, .set5MemHl, .set5A]

/-- Row Fx of the 0xCB-prefixed map (R77). -/
def cbRowF : List Instr :=
  [.set6B, .set6C, .set6D, .set6E, .set6H, .set6L, .set6MemHl, .set6A, .set7B, .set7C, .set7D,
   .set7E, .set7H, .set7L, .set7MemHl, .set7A]

/-- The 0xCB-prefixed map (30_encoding.md section 4). -/
def cbGrid : List (List Instr) :=
  [cbRow0, cbRow1, cbRow2, cbRow3, cbRow4, cbRow5, cbRow6, cbRow7, cbRow8, cbRow9, cbRowA, cbRowB,
   cbRowC, cbRowD, cbRowE, cbRowF]

/-- The entry of a grid for an opcode byte: row = high nibble, column = low nibble. Both grids are
16 by 16, so the default is never taken. -/
def gridAt (grid : List (List Instr)) (op : Byte) : Instr :=
  (grid.getD (op.toNat / 16) []).getD (op.toNat % 16) .nop

/-- The instruction a primary opcode selects (R73 to R76), given its operand bytes. -/
def decodePrimary (op b1 b2 : Byte) : Instr := gridAt (primaryGrid b1 b2) op

/-- The instruction the second byte after 0xCB selects (R77). -/
def decodeCb (op2 : Byte) : Instr := gridAt cbGrid op2

/-- The bytes fetched for each primary opcode (the length table of R72, row = high nibble, column =
low nibble; "-" of an illegal opcode is the one opcode byte, 0xCB is listed with 1). -/
def lengthGrid : List (List Nat) :=
  [[1, 3, 1, 1, 1, 1, 2, 1, 3, 1, 1, 1, 1, 1, 2, 1],
   [1, 3, 1, 1, 1, 1, 2, 1, 2, 1, 1, 1, 1, 1, 2, 1],
   [2, 3, 1, 1, 1, 1, 2, 1, 2, 1, 1, 1, 1, 1, 2, 1],
   [2, 3, 1, 1, 1, 1, 2, 1, 2, 1, 1, 1, 1, 1, 2, 1],
   [1, 1, 1, 1, 1, 1, 1, 1, 1, 1, 1, 1, 1, 1, 1, 1],
   [1, 1, 1, 1, 1, 1, 1, 1, 1, 1, 1, 1, 1, 1, 1, 1],
   [1, 1, 1, 1, 1, 1, 1, 1, 1, 1, 1, 1, 1, 1, 1, 1],
   [1, 1, 1, 1, 1, 1, 1, 1, 1, 1, 1, 1, 1, 1, 1, 1],
   [1, 1, 1, 1, 1, 1, 1, 1, 1, 1, 1, 1, 1, 1, 1, 1],
   [1, 1, 1, 1, 1, 1, 1, 1, 1, 1, 1, 1, 1, 1, 1, 1],
   [1, 1, 1, 1, 1, 1, 1, 1, 1, 1, 1, 1, 1, 1, 1, 1],
   [1, 1, 1, 1, 1, 1, 1, 1, 1, 1, 1, 1, 1, 1, 1, 1],
   [1, 1, 3, 3, 3, 1, 2, 1, 1, 1, 3, 1, 3, 3, 2, 1],
   [1, 1, 3, 1, 3, 1, 2, 1, 1, 1, 3, 1, 3, 1, 2, 1],
   [2, 1, 1, 1, 1, 1, 2, 1, 2, 1, 3, 1, 1, 1, 2, 1],
   [2, 1, 1, 1, 1, 1, 2, 1, 2, 1, 3, 1, 1, 1, 2, 1]]

/-- The length of a primary opcode's instruction, told from its first byte alone (R72). -/
def primaryLength (op : Byte) : Nat :=
  (lengthGrid.getD (op.toNat / 16) []).getD (op.toNat % 16) 1

/-- Why bytes are no instruction. Every complete instruction decodes (R78, R79), so the only reason is
that bytes are missing. -/
inductive DecodeError where
  /-- No byte at all. -/
  | empty
  /-- The opcode `op` wants more operand bytes than there are. -/
  | truncated (op : Byte)
  deriving DecidableEq, Repr

/-- Decodes the first instruction of a byte list and answers it with the bytes after it. 0xCB selects
by the byte after it (R62, R77); 0xCB with no byte after it is the table's row PREFIX CB
(log entry 19). -/
def decode : List Byte → Except DecodeError (Instr × List Byte)
  | [] => .error .empty
  | op :: rest =>
    if op = 0xCB#8 then
      match rest with
      | [] => .ok (.prefixCb, [])
      | op2 :: rest => .ok (decodeCb op2, rest)
    else
      match primaryLength op, rest with
      | 2, b1 :: rest => .ok (decodePrimary op b1 0#8, rest)
      | 3, b1 :: b2 :: rest => .ok (decodePrimary op b1 b2, rest)
      | 1, rest => .ok (decodePrimary op 0#8 0#8, rest)
      | _, _ => .error (.truncated op)

/-! ### A word of the opcode table -/

/-- The bytes of a table word, in memory order. The table numbers a CB2 row with its prefix in bits
15..8 and its second byte in bits 7..0 (match 0xCB00 to 0xCBFF), and every other row with its opcode
in bits 7..0 and each operand byte above the one before it. Bits above `nbits` are 0 and fill up the
length that R72 gives the first byte (log entry 19). -/
def tableBytes (nbits w : Nat) : List Byte :=
  if nbits = 16 ∧ w / 0x100 % 0x100 = 0xCB then [0xCB#8, BitVec.ofNat 8 w]
  else
    [BitVec.ofNat 8 w, BitVec.ofNat 8 (w / 0x100), BitVec.ofNat 8 (w / 0x10000)].take
      (max (nbits / 8) (primaryLength (BitVec.ofNat 8 w)))

/-- The instruction the decoder reads from a word of spec/opcode_table.json. -/
def decodeTableWord (nbits w : Nat) : Option Instr :=
  match decode (tableBytes nbits w) with
  | .ok (i, _) => some i
  | .error _ => none

/-! ### The encoder -/

/-- The bytes of an instruction, from the match words of spec/opcode_table.json. -/
def encode : Instr → List Byte
  | .nop => [0x00#8]
  | .ldBcN16 n16 => [0x01#8, n16.extractLsb' 0 8, n16.extractLsb' 8 8]
  | .ldMemBcA => [0x02#8]
  | .incBc => [0x03#8]
  | .incB => [0x04#8]
  | .decB => [0x05#8]
  | .ldBN8 n8 => [0x06#8, n8]
  | .rlca => [0x07#8]
  | .ldMemA16Sp a16 => [0x08#8, a16.extractLsb' 0 8, a16.extractLsb' 8 8]
  | .addHlBc => [0x09#8]
  | .ldAMemBc => [0x0A#8]
  | .decBc => [0x0B#8]
  | .incC => [0x0C#8]
  | .decC => [0x0D#8]
  | .ldCN8 n8 => [0x0E#8, n8]
  | .rrca => [0x0F#8]
  | .stop => [0x10#8]
  | .ldDeN16 n16 => [0x11#8, n16.extractLsb' 0 8, n16.extractLsb' 8 8]
  | .ldMemDeA => [0x12#8]
  | .incDe => [0x13#8]
  | .incD => [0x14#8]
  | .decD => [0x15#8]
  | .ldDN8 n8 => [0x16#8, n8]
  | .rla => [0x17#8]
  | .jrE8 e8 => [0x18#8, e8]
  | .addHlDe => [0x19#8]
  | .ldAMemDe => [0x1A#8]
  | .decDe => [0x1B#8]
  | .incE => [0x1C#8]
  | .decE => [0x1D#8]
  | .ldEN8 n8 => [0x1E#8, n8]
  | .rra => [0x1F#8]
  | .jrNzE8 e8 => [0x20#8, e8]
  | .ldHlN16 n16 => [0x21#8, n16.extractLsb' 0 8, n16.extractLsb' 8 8]
  | .ldMemHlIncA => [0x22#8]
  | .incHl => [0x23#8]
  | .incH => [0x24#8]
  | .decH => [0x25#8]
  | .ldHN8 n8 => [0x26#8, n8]
  | .daa => [0x27#8]
  | .jrZE8 e8 => [0x28#8, e8]
  | .addHlHl => [0x29#8]
  | .ldAMemHlInc => [0x2A#8]
  | .decHl => [0x2B#8]
  | .incL => [0x2C#8]
  | .decL => [0x2D#8]
  | .ldLN8 n8 => [0x2E#8, n8]
  | .cpl => [0x2F#8]
  | .jrNcE8 e8 => [0x30#8, e8]
  | .ldSpN16 n16 => [0x31#8, n16.extractLsb' 0 8, n16.extractLsb' 8 8]
  | .ldMemHlDecA => [0x32#8]
  | .incSp => [0x33#8]
  | .incMemHl => [0x34#8]
  | .decMemHl => [0x35#8]
  | .ldMemHlN8 n8 => [0x36#8, n8]
  | .scf => [0x37#8]
  | .jrCE8 e8 => [0x38#8, e8]
  | .addHlSp => [0x39#8]
  | .ldAMemHlDec => [0x3A#8]
  | .decSp => [0x3B#8]
  | .incA => [0x3C#8]
  | .decA => [0x3D#8]
  | .ldAN8 n8 => [0x3E#8, n8]
  | .ccf => [0x3F#8]
  | .ldBB => [0x40#8]
  | .ldBC => [0x41#8]
  | .ldBD => [0x42#8]
  | .ldBE => [0x43#8]
  | .ldBH => [0x44#8]
  | .ldBL => [0x45#8]
  | .ldBMemHl => [0x46#8]
  | .ldBA => [0x47#8]
  | .ldCB => [0x48#8]
  | .ldCC => [0x49#8]
  | .ldCD => [0x4A#8]
  | .ldCE => [0x4B#8]
  | .ldCH => [0x4C#8]
  | .ldCL => [0x4D#8]
  | .ldCMemHl => [0x4E#8]
  | .ldCA => [0x4F#8]
  | .ldDB => [0x50#8]
  | .ldDC => [0x51#8]
  | .ldDD => [0x52#8]
  | .ldDE => [0x53#8]
  | .ldDH => [0x54#8]
  | .ldDL => [0x55#8]
  | .ldDMemHl => [0x56#8]
  | .ldDA => [0x57#8]
  | .ldEB => [0x58#8]
  | .ldEC => [0x59#8]
  | .ldED => [0x5A#8]
  | .ldEE => [0x5B#8]
  | .ldEH => [0x5C#8]
  | .ldEL => [0x5D#8]
  | .ldEMemHl => [0x5E#8]
  | .ldEA => [0x5F#8]
  | .ldHB => [0x60#8]
  | .ldHC => [0x61#8]
  | .ldHD => [0x62#8]
  | .ldHE => [0x63#8]
  | .ldHH => [0x64#8]
  | .ldHL => [0x65#8]
  | .ldHMemHl => [0x66#8]
  | .ldHA => [0x67#8]
  | .ldLB => [0x68#8]
  | .ldLC => [0x69#8]
  | .ldLD => [0x6A#8]
  | .ldLE => [0x6B#8]
  | .ldLH => [0x6C#8]
  | .ldLL => [0x6D#8]
  | .ldLMemHl => [0x6E#8]
  | .ldLA => [0x6F#8]
  | .ldMemHlB => [0x70#8]
  | .ldMemHlC => [0x71#8]
  | .ldMemHlD => [0x72#8]
  | .ldMemHlE => [0x73#8]
  | .ldMemHlH => [0x74#8]
  | .ldMemHlL => [0x75#8]
  | .halt => [0x76#8]
  | .ldMemHlA => [0x77#8]
  | .ldAB => [0x78#8]
  | .ldAC => [0x79#8]
  | .ldAD => [0x7A#8]
  | .ldAE => [0x7B#8]
  | .ldAH => [0x7C#8]
  | .ldAL => [0x7D#8]
  | .ldAMemHl => [0x7E#8]
  | .ldAA => [0x7F#8]
  | .addAB => [0x80#8]
  | .addAC => [0x81#8]
  | .addAD => [0x82#8]
  | .addAE => [0x83#8]
  | .addAH => [0x84#8]
  | .addAL => [0x85#8]
  | .addAMemHl => [0x86#8]
  | .addAA => [0x87#8]
  | .adcAB => [0x88#8]
  | .adcAC => [0x89#8]
  | .adcAD => [0x8A#8]
  | .adcAE => [0x8B#8]
  | .adcAH => [0x8C#8]
  | .adcAL => [0x8D#8]
  | .adcAMemHl => [0x8E#8]
  | .adcAA => [0x8F#8]
  | .subB => [0x90#8]
  | .subC => [0x91#8]
  | .subD => [0x92#8]
  | .subE => [0x93#8]
  | .subH => [0x94#8]
  | .subL => [0x95#8]
  | .subMemHl => [0x96#8]
  | .subA => [0x97#8]
  | .sbcAB => [0x98#8]
  | .sbcAC => [0x99#8]
  | .sbcAD => [0x9A#8]
  | .sbcAE => [0x9B#8]
  | .sbcAH => [0x9C#8]
  | .sbcAL => [0x9D#8]
  | .sbcAMemHl => [0x9E#8]
  | .sbcAA => [0x9F#8]
  | .andB => [0xA0#8]
  | .andC => [0xA1#8]
  | .andD => [0xA2#8]
  | .andE => [0xA3#8]
  | .andH => [0xA4#8]
  | .andL => [0xA5#8]
  | .andMemHl => [0xA6#8]
  | .andA => [0xA7#8]
  | .xorB => [0xA8#8]
  | .xorC => [0xA9#8]
  | .xorD => [0xAA#8]
  | .xorE => [0xAB#8]
  | .xorH => [0xAC#8]
  | .xorL => [0xAD#8]
  | .xorMemHl => [0xAE#8]
  | .xorA => [0xAF#8]
  | .orB => [0xB0#8]
  | .orC => [0xB1#8]
  | .orD => [0xB2#8]
  | .orE => [0xB3#8]
  | .orH => [0xB4#8]
  | .orL => [0xB5#8]
  | .orMemHl => [0xB6#8]
  | .orA => [0xB7#8]
  | .cpB => [0xB8#8]
  | .cpC => [0xB9#8]
  | .cpD => [0xBA#8]
  | .cpE => [0xBB#8]
  | .cpH => [0xBC#8]
  | .cpL => [0xBD#8]
  | .cpMemHl => [0xBE#8]
  | .cpA => [0xBF#8]
  | .retNz => [0xC0#8]
  | .popBc => [0xC1#8]
  | .jpNzA16 a16 => [0xC2#8, a16.extractLsb' 0 8, a16.extractLsb' 8 8]
  | .jpA16 a16 => [0xC3#8, a16.extractLsb' 0 8, a16.extractLsb' 8 8]
  | .callNzA16 a16 => [0xC4#8, a16.extractLsb' 0 8, a16.extractLsb' 8 8]
  | .pushBc => [0xC5#8]
  | .addAN8 n8 => [0xC6#8, n8]
  | .rst00 => [0xC7#8]
  | .retZ => [0xC8#8]
  | .ret => [0xC9#8]
  | .jpZA16 a16 => [0xCA#8, a16.extractLsb' 0 8, a16.extractLsb' 8 8]
  | .prefixCb => [0xCB#8]
  | .callZA16 a16 => [0xCC#8, a16.extractLsb' 0 8, a16.extractLsb' 8 8]
  | .callA16 a16 => [0xCD#8, a16.extractLsb' 0 8, a16.extractLsb' 8 8]
  | .adcAN8 n8 => [0xCE#8, n8]
  | .rst08 => [0xCF#8]
  | .retNc => [0xD0#8]
  | .popDe => [0xD1#8]
  | .jpNcA16 a16 => [0xD2#8, a16.extractLsb' 0 8, a16.extractLsb' 8 8]
  | .illegalD3 => [0xD3#8]
  | .callNcA16 a16 => [0xD4#8, a16.extractLsb' 0 8, a16.extractLsb' 8 8]
  | .pushDe => [0xD5#8]
  | .subN8 n8 => [0xD6#8, n8]
  | .rst10 => [0xD7#8]
  | .retC => [0xD8#8]
  | .reti => [0xD9#8]
  | .jpCA16 a16 => [0xDA#8, a16.extractLsb' 0 8, a16.extractLsb' 8 8]
  | .illegalDB => [0xDB#8]
  | .callCA16 a16 => [0xDC#8, a16.extractLsb' 0 8, a16.extractLsb' 8 8]
  | .illegalDD => [0xDD#8]
  | .sbcAN8 n8 => [0xDE#8, n8]
  | .rst18 => [0xDF#8]
  | .ldhMemA8A a8 => [0xE0#8, a8]
  | .popHl => [0xE1#8]
  | .ldMemCA => [0xE2#8]
  | .illegalE3 => [0xE3#8]
  | .illegalE4 => [0xE4#8]
  | .pushHl => [0xE5#8]
  | .andN8 n8 => [0xE6#8, n8]
  | .rst20 => [0xE7#8]
  | .addSpE8 e8 => [0xE8#8, e8]
  | .jpHl => [0xE9#8]
  | .ldMemA16A a16 => [0xEA#8, a16.extractLsb' 0 8, a16.extractLsb' 8 8]
  | .illegalEB => [0xEB#8]
  | .illegalEC => [0xEC#8]
  | .illegalED => [0xED#8]
  | .xorN8 n8 => [0xEE#8, n8]
  | .rst28 => [0xEF#8]
  | .ldhAMemA8 a8 => [0xF0#8, a8]
  | .popAf => [0xF1#8]
  | .ldAMemC => [0xF2#8]
  | .di => [0xF3#8]
  | .illegalF4 => [0xF4#8]
  | .pushAf => [0xF5#8]
  | .orN8 n8 => [0xF6#8, n8]
  | .rst30 => [0xF7#8]
  | .ldHlSpE8 e8 => [0xF8#8, e8]
  | .ldSpHl => [0xF9#8]
  | .ldAMemA16 a16 => [0xFA#8, a16.extractLsb' 0 8, a16.extractLsb' 8 8]
  | .ei => [0xFB#8]
  | .illegalFC => [0xFC#8]
  | .illegalFD => [0xFD#8]
  | .cpN8 n8 => [0xFE#8, n8]
  | .rst38 => [0xFF#8]
  | .rlcB => [0xCB#8, 0x00#8]
  | .rlcC => [0xCB#8, 0x01#8]
  | .rlcD => [0xCB#8, 0x02#8]
  | .rlcE => [0xCB#8, 0x03#8]
  | .rlcH => [0xCB#8, 0x04#8]
  | .rlcL => [0xCB#8, 0x05#8]
  | .rlcMemHl => [0xCB#8, 0x06#8]
  | .rlcA => [0xCB#8, 0x07#8]
  | .rrcB => [0xCB#8, 0x08#8]
  | .rrcC => [0xCB#8, 0x09#8]
  | .rrcD => [0xCB#8, 0x0A#8]
  | .rrcE => [0xCB#8, 0x0B#8]
  | .rrcH => [0xCB#8, 0x0C#8]
  | .rrcL => [0xCB#8, 0x0D#8]
  | .rrcMemHl => [0xCB#8, 0x0E#8]
  | .rrcA => [0xCB#8, 0x0F#8]
  | .rlB => [0xCB#8, 0x10#8]
  | .rlC => [0xCB#8, 0x11#8]
  | .rlD => [0xCB#8, 0x12#8]
  | .rlE => [0xCB#8, 0x13#8]
  | .rlH => [0xCB#8, 0x14#8]
  | .rlL => [0xCB#8, 0x15#8]
  | .rlMemHl => [0xCB#8, 0x16#8]
  | .rlA => [0xCB#8, 0x17#8]
  | .rrB => [0xCB#8, 0x18#8]
  | .rrC => [0xCB#8, 0x19#8]
  | .rrD => [0xCB#8, 0x1A#8]
  | .rrE => [0xCB#8, 0x1B#8]
  | .rrH => [0xCB#8, 0x1C#8]
  | .rrL => [0xCB#8, 0x1D#8]
  | .rrMemHl => [0xCB#8, 0x1E#8]
  | .rrA => [0xCB#8, 0x1F#8]
  | .slaB => [0xCB#8, 0x20#8]
  | .slaC => [0xCB#8, 0x21#8]
  | .slaD => [0xCB#8, 0x22#8]
  | .slaE => [0xCB#8, 0x23#8]
  | .slaH => [0xCB#8, 0x24#8]
  | .slaL => [0xCB#8, 0x25#8]
  | .slaMemHl => [0xCB#8, 0x26#8]
  | .slaA => [0xCB#8, 0x27#8]
  | .sraB => [0xCB#8, 0x28#8]
  | .sraC => [0xCB#8, 0x29#8]
  | .sraD => [0xCB#8, 0x2A#8]
  | .sraE => [0xCB#8, 0x2B#8]
  | .sraH => [0xCB#8, 0x2C#8]
  | .sraL => [0xCB#8, 0x2D#8]
  | .sraMemHl => [0xCB#8, 0x2E#8]
  | .sraA => [0xCB#8, 0x2F#8]
  | .swapB => [0xCB#8, 0x30#8]
  | .swapC => [0xCB#8, 0x31#8]
  | .swapD => [0xCB#8, 0x32#8]
  | .swapE => [0xCB#8, 0x33#8]
  | .swapH => [0xCB#8, 0x34#8]
  | .swapL => [0xCB#8, 0x35#8]
  | .swapMemHl => [0xCB#8, 0x36#8]
  | .swapA => [0xCB#8, 0x37#8]
  | .srlB => [0xCB#8, 0x38#8]
  | .srlC => [0xCB#8, 0x39#8]
  | .srlD => [0xCB#8, 0x3A#8]
  | .srlE => [0xCB#8, 0x3B#8]
  | .srlH => [0xCB#8, 0x3C#8]
  | .srlL => [0xCB#8, 0x3D#8]
  | .srlMemHl => [0xCB#8, 0x3E#8]
  | .srlA => [0xCB#8, 0x3F#8]
  | .bit0B => [0xCB#8, 0x40#8]
  | .bit0C => [0xCB#8, 0x41#8]
  | .bit0D => [0xCB#8, 0x42#8]
  | .bit0E => [0xCB#8, 0x43#8]
  | .bit0H => [0xCB#8, 0x44#8]
  | .bit0L => [0xCB#8, 0x45#8]
  | .bit0MemHl => [0xCB#8, 0x46#8]
  | .bit0A => [0xCB#8, 0x47#8]
  | .bit1B => [0xCB#8, 0x48#8]
  | .bit1C => [0xCB#8, 0x49#8]
  | .bit1D => [0xCB#8, 0x4A#8]
  | .bit1E => [0xCB#8, 0x4B#8]
  | .bit1H => [0xCB#8, 0x4C#8]
  | .bit1L => [0xCB#8, 0x4D#8]
  | .bit1MemHl => [0xCB#8, 0x4E#8]
  | .bit1A => [0xCB#8, 0x4F#8]
  | .bit2B => [0xCB#8, 0x50#8]
  | .bit2C => [0xCB#8, 0x51#8]
  | .bit2D => [0xCB#8, 0x52#8]
  | .bit2E => [0xCB#8, 0x53#8]
  | .bit2H => [0xCB#8, 0x54#8]
  | .bit2L => [0xCB#8, 0x55#8]
  | .bit2MemHl => [0xCB#8, 0x56#8]
  | .bit2A => [0xCB#8, 0x57#8]
  | .bit3B => [0xCB#8, 0x58#8]
  | .bit3C => [0xCB#8, 0x59#8]
  | .bit3D => [0xCB#8, 0x5A#8]
  | .bit3E => [0xCB#8, 0x5B#8]
  | .bit3H => [0xCB#8, 0x5C#8]
  | .bit3L => [0xCB#8, 0x5D#8]
  | .bit3MemHl => [0xCB#8, 0x5E#8]
  | .bit3A => [0xCB#8, 0x5F#8]
  | .bit4B => [0xCB#8, 0x60#8]
  | .bit4C => [0xCB#8, 0x61#8]
  | .bit4D => [0xCB#8, 0x62#8]
  | .bit4E => [0xCB#8, 0x63#8]
  | .bit4H => [0xCB#8, 0x64#8]
  | .bit4L => [0xCB#8, 0x65#8]
  | .bit4MemHl => [0xCB#8, 0x66#8]
  | .bit4A => [0xCB#8, 0x67#8]
  | .bit5B => [0xCB#8, 0x68#8]
  | .bit5C => [0xCB#8, 0x69#8]
  | .bit5D => [0xCB#8, 0x6A#8]
  | .bit5E => [0xCB#8, 0x6B#8]
  | .bit5H => [0xCB#8, 0x6C#8]
  | .bit5L => [0xCB#8, 0x6D#8]
  | .bit5MemHl => [0xCB#8, 0x6E#8]
  | .bit5A => [0xCB#8, 0x6F#8]
  | .bit6B => [0xCB#8, 0x70#8]
  | .bit6C => [0xCB#8, 0x71#8]
  | .bit6D => [0xCB#8, 0x72#8]
  | .bit6E => [0xCB#8, 0x73#8]
  | .bit6H => [0xCB#8, 0x74#8]
  | .bit6L => [0xCB#8, 0x75#8]
  | .bit6MemHl => [0xCB#8, 0x76#8]
  | .bit6A => [0xCB#8, 0x77#8]
  | .bit7B => [0xCB#8, 0x78#8]
  | .bit7C => [0xCB#8, 0x79#8]
  | .bit7D => [0xCB#8, 0x7A#8]
  | .bit7E => [0xCB#8, 0x7B#8]
  | .bit7H => [0xCB#8, 0x7C#8]
  | .bit7L => [0xCB#8, 0x7D#8]
  | .bit7MemHl => [0xCB#8, 0x7E#8]
  | .bit7A => [0xCB#8, 0x7F#8]
  | .res0B => [0xCB#8, 0x80#8]
  | .res0C => [0xCB#8, 0x81#8]
  | .res0D => [0xCB#8, 0x82#8]
  | .res0E => [0xCB#8, 0x83#8]
  | .res0H => [0xCB#8, 0x84#8]
  | .res0L => [0xCB#8, 0x85#8]
  | .res0MemHl => [0xCB#8, 0x86#8]
  | .res0A => [0xCB#8, 0x87#8]
  | .res1B => [0xCB#8, 0x88#8]
  | .res1C => [0xCB#8, 0x89#8]
  | .res1D => [0xCB#8, 0x8A#8]
  | .res1E => [0xCB#8, 0x8B#8]
  | .res1H => [0xCB#8, 0x8C#8]
  | .res1L => [0xCB#8, 0x8D#8]
  | .res1MemHl => [0xCB#8, 0x8E#8]
  | .res1A => [0xCB#8, 0x8F#8]
  | .res2B => [0xCB#8, 0x90#8]
  | .res2C => [0xCB#8, 0x91#8]
  | .res2D => [0xCB#8, 0x92#8]
  | .res2E => [0xCB#8, 0x93#8]
  | .res2H => [0xCB#8, 0x94#8]
  | .res2L => [0xCB#8, 0x95#8]
  | .res2MemHl => [0xCB#8, 0x96#8]
  | .res2A => [0xCB#8, 0x97#8]
  | .res3B => [0xCB#8, 0x98#8]
  | .res3C => [0xCB#8, 0x99#8]
  | .res3D => [0xCB#8, 0x9A#8]
  | .res3E => [0xCB#8, 0x9B#8]
  | .res3H => [0xCB#8, 0x9C#8]
  | .res3L => [0xCB#8, 0x9D#8]
  | .res3MemHl => [0xCB#8, 0x9E#8]
  | .res3A => [0xCB#8, 0x9F#8]
  | .res4B => [0xCB#8, 0xA0#8]
  | .res4C => [0xCB#8, 0xA1#8]
  | .res4D => [0xCB#8, 0xA2#8]
  | .res4E => [0xCB#8, 0xA3#8]
  | .res4H => [0xCB#8, 0xA4#8]
  | .res4L => [0xCB#8, 0xA5#8]
  | .res4MemHl => [0xCB#8, 0xA6#8]
  | .res4A => [0xCB#8, 0xA7#8]
  | .res5B => [0xCB#8, 0xA8#8]
  | .res5C => [0xCB#8, 0xA9#8]
  | .res5D => [0xCB#8, 0xAA#8]
  | .res5E => [0xCB#8, 0xAB#8]
  | .res5H => [0xCB#8, 0xAC#8]
  | .res5L => [0xCB#8, 0xAD#8]
  | .res5MemHl => [0xCB#8, 0xAE#8]
  | .res5A => [0xCB#8, 0xAF#8]
  | .res6B => [0xCB#8, 0xB0#8]
  | .res6C => [0xCB#8, 0xB1#8]
  | .res6D => [0xCB#8, 0xB2#8]
  | .res6E => [0xCB#8, 0xB3#8]
  | .res6H => [0xCB#8, 0xB4#8]
  | .res6L => [0xCB#8, 0xB5#8]
  | .res6MemHl => [0xCB#8, 0xB6#8]
  | .res6A => [0xCB#8, 0xB7#8]
  | .res7B => [0xCB#8, 0xB8#8]
  | .res7C => [0xCB#8, 0xB9#8]
  | .res7D => [0xCB#8, 0xBA#8]
  | .res7E => [0xCB#8, 0xBB#8]
  | .res7H => [0xCB#8, 0xBC#8]
  | .res7L => [0xCB#8, 0xBD#8]
  | .res7MemHl => [0xCB#8, 0xBE#8]
  | .res7A => [0xCB#8, 0xBF#8]
  | .set0B => [0xCB#8, 0xC0#8]
  | .set0C => [0xCB#8, 0xC1#8]
  | .set0D => [0xCB#8, 0xC2#8]
  | .set0E => [0xCB#8, 0xC3#8]
  | .set0H => [0xCB#8, 0xC4#8]
  | .set0L => [0xCB#8, 0xC5#8]
  | .set0MemHl => [0xCB#8, 0xC6#8]
  | .set0A => [0xCB#8, 0xC7#8]
  | .set1B => [0xCB#8, 0xC8#8]
  | .set1C => [0xCB#8, 0xC9#8]
  | .set1D => [0xCB#8, 0xCA#8]
  | .set1E => [0xCB#8, 0xCB#8]
  | .set1H => [0xCB#8, 0xCC#8]
  | .set1L => [0xCB#8, 0xCD#8]
  | .set1MemHl => [0xCB#8, 0xCE#8]
  | .set1A => [0xCB#8, 0xCF#8]
  | .set2B => [0xCB#8, 0xD0#8]
  | .set2C => [0xCB#8, 0xD1#8]
  | .set2D => [0xCB#8, 0xD2#8]
  | .set2E => [0xCB#8, 0xD3#8]
  | .set2H => [0xCB#8, 0xD4#8]
  | .set2L => [0xCB#8, 0xD5#8]
  | .set2MemHl => [0xCB#8, 0xD6#8]
  | .set2A => [0xCB#8, 0xD7#8]
  | .set3B => [0xCB#8, 0xD8#8]
  | .set3C => [0xCB#8, 0xD9#8]
  | .set3D => [0xCB#8, 0xDA#8]
  | .set3E => [0xCB#8, 0xDB#8]
  | .set3H => [0xCB#8, 0xDC#8]
  | .set3L => [0xCB#8, 0xDD#8]
  | .set3MemHl => [0xCB#8, 0xDE#8]
  | .set3A => [0xCB#8, 0xDF#8]
  | .set4B => [0xCB#8, 0xE0#8]
  | .set4C => [0xCB#8, 0xE1#8]
  | .set4D => [0xCB#8, 0xE2#8]
  | .set4E => [0xCB#8, 0xE3#8]
  | .set4H => [0xCB#8, 0xE4#8]
  | .set4L => [0xCB#8, 0xE5#8]
  | .set4MemHl => [0xCB#8, 0xE6#8]
  | .set4A => [0xCB#8, 0xE7#8]
  | .set5B => [0xCB#8, 0xE8#8]
  | .set5C => [0xCB#8, 0xE9#8]
  | .set5D => [0xCB#8, 0xEA#8]
  | .set5E => [0xCB#8, 0xEB#8]
  | .set5H => [0xCB#8, 0xEC#8]
  | .set5L => [0xCB#8, 0xED#8]
  | .set5MemHl => [0xCB#8, 0xEE#8]
  | .set5A => [0xCB#8, 0xEF#8]
  | .set6B => [0xCB#8, 0xF0#8]
  | .set6C => [0xCB#8, 0xF1#8]
  | .set6D => [0xCB#8, 0xF2#8]
  | .set6E => [0xCB#8, 0xF3#8]
  | .set6H => [0xCB#8, 0xF4#8]
  | .set6L => [0xCB#8, 0xF5#8]
  | .set6MemHl => [0xCB#8, 0xF6#8]
  | .set6A => [0xCB#8, 0xF7#8]
  | .set7B => [0xCB#8, 0xF8#8]
  | .set7C => [0xCB#8, 0xF9#8]
  | .set7D => [0xCB#8, 0xFA#8]
  | .set7E => [0xCB#8, 0xFB#8]
  | .set7H => [0xCB#8, 0xFC#8]
  | .set7L => [0xCB#8, 0xFD#8]
  | .set7MemHl => [0xCB#8, 0xFE#8]
  | .set7A => [0xCB#8, 0xFF#8]

end Sys2Proof
end

