-- ==== Sys2Proof/Config.lean ====
section
/-! DEFINITION. What is fixed for the machine and is not state: the implementation parameters of
00_scope.md section 4. The spec leaves no value free, so there is no opaque constant here.
ROM_IMAGE (R5) is a launch argument: see `Sys2Proof.Machine.loadRom`. -/

namespace Sys2Proof.Config

/-- The two parameters that the spec marks OPEN (00_scope.md R2, R3; 92_eei_decisions.md D8, D9). -/
structure Params where
  /-- STOP_EXTRA_ADVANCE (R2): how far STOP advances PC beyond its one-byte opcode fetch. -/
  stopExtraAdvance : Nat
  /-- SPE_H_BIT (R3): the bit of `SP ^ e ^ result` that is H after LD HL,SP+e8 and ADD SP,e8. -/
  speHBit : Nat
  deriving DecidableEq, Repr

/-- The values the parameters may take (R2: 1 or 2; R3: 12 or 4). -/
abbrev Params.Valid (p : Params) : Prop :=
  (p.stopExtraAdvance = 1 ∨ p.stopExtraAdvance = 2) ∧ (p.speHBit = 12 ∨ p.speHBit = 4)

/-- "This spec's value is 2" (R2) and "This spec's value is 12" (R3). UNVERIFIED (log entries 1, 2). -/
def Params.spec : Params := { stopExtraAdvance := 2, speHBit := 12 }

/-- MEM_INIT (00_scope.md R4): what a storage byte holds at power-on, 0x00 everywhere; for the ROM
banks the zero fill of 10_state.md R23. It is what an unlisted address reads as.
UNVERIFIED (log entry 3). -/
def memInit (_address : Nat) : Byte := 0x00#8

end Sys2Proof.Config
end

