-- ==== Sys2Proof/Machine/State.lean ====
section
/-! DEFINITION. The architectural state (10_state.md R24), the reasons a step could stop, and the
power-on state (70_reset_and_hazards.md R330). -/

namespace Sys2Proof.Machine

/-- The storage arrays of 20_memory.md R31 (rom0, rom1, vram, eram, wramA, wramB, oam, io, hram, ie) as
one list of (address, byte) pairs, keyed by the address that owns the byte: addresses strictly
rising, no pair whose byte is what an unlisted address reads as (log entry 17). -/
abbrev Memory := List Host.Cell

/-- The record of the fatal condition (10_state.md R20): the unimplemented primary opcode and the
address it was fetched from. -/
structure FatalRecord where
  opcode : Byte
  addr   : Word
  deriving DecidableEq, Repr

/-- The five interrupt sources (60_exceptions.md R300), highest priority first. -/
inductive InterruptSource where
  | vblank
  | lcdStat
  | timer
  | serial
  | joypad
  deriving DecidableEq, Repr

/-- The architectural state: "exactly" the tuple of 10_state.md R24. -/
structure State where
  /-- Accumulator A (R10). -/
  a : Byte
  /-- Flag register F (R10, R12): Z, N, H, C in bits 7, 6, 5, 4. -/
  f : Byte
  /-- B, high half of BC (R10, R11). -/
  b : Byte
  /-- C, low half of BC (R10, R11). -/
  c : Byte
  /-- D, high half of DE (R10, R11). -/
  d : Byte
  /-- E, low half of DE (R10, R11). -/
  e : Byte
  /-- H, high half of HL (R10, R11). -/
  h : Byte
  /-- L, low half of HL (R10, R11). -/
  l : Byte
  /-- Stack pointer (R15). -/
  sp : Word
  /-- Program counter (R14). -/
  pc : Word
  /-- Interrupt master enable (R16). -/
  ime : Bool
  /-- Set by HALT, cleared by the interrupt check (R17). -/
  halted : Bool
  /-- Set by STOP, cleared by nothing in the core (R18). -/
  stopped : Bool
  /-- The fatal record, `none` until an unimplemented opcode is fetched (R20). -/
  fatal : Option FatalRecord
  /-- All storage arrays (R23), IF and IE among them (R21, R22). -/
  mem : Memory
  deriving DecidableEq, Repr

/-- The reasons a step could stop with a fault: none. "No other exception exists. Memory accesses
never fault" (60_exceptions.md R313), and the fatal condition is a state of the machine
(10_state.md R20), so nothing raises a fault. Unsafe: that every step goes
on rests on it (log entry 28). -/
inductive Fault where
  deriving DecidableEq, Repr

/-- The reasons a step could be refused. -/
inductive Refusal where
  /-- An instruction that has no meaning yet: raised only by a refused arm of `exec`, and no arm is
  refused. Safe. -/
  | notModelled (mnemonic : String)
  deriving DecidableEq, Repr

/-- What an instruction, or a step, answers. -/
abbrev Result := Host.Outcome State Fault Refusal

/-- Power-on (70_reset_and_hazards.md R330, 10_state.md section 6), before `load_rom`: memory lists
nothing, so every storage byte reads as `Config.memInit`. IME, halted, stopped and fatal:
log entry 4. -/
def State.reset : State where
  a := 0x01#8
  f := 0xB0#8
  b := 0x00#8
  c := 0x13#8
  d := 0x00#8
  e := 0xD8#8
  h := 0x01#8
  l := 0x4D#8
  sp := 0xFFFE#16
  pc := 0x0100#16
  ime := false
  halted := false
  stopped := false
  fatal := none
  mem := []

end Sys2Proof.Machine
end

