-- ==== Sys2Proof/Machine/Memory.lean ====
section
/-! DEFINITION. The MMU (20_memory.md): region decode, the byte and word accesses, and the canonical
list that holds the storage arrays. -/

namespace Sys2Proof.Machine

/-! ### The storage list -/

/-- The byte a storage address holds: its cell, or what an unlisted address reads as. -/
def Memory.get : Memory → Nat → Byte
  | [], k => Config.memInit k
  | cell :: rest, k => if cell.1 = k then cell.2 else Memory.get rest k

/-- The cell for `k`, or nothing where `v` is what an unlisted address reads as. -/
def Memory.cellFor (k : Nat) (v : Byte) : Memory :=
  if v = Config.memInit k then [] else [(k, v)]

/-- Stores `v` at storage address `k`, keeping the canonical form. -/
def Memory.set : Memory → Nat → Byte → Memory
  | [], k, v => Memory.cellFor k v
  | cell :: rest, k, v =>
    if k < cell.1 then Memory.cellFor k v ++ cell :: rest
    else if k = cell.1 then Memory.cellFor k v ++ rest
    else cell :: Memory.set rest k v

/-! ### Regions (R31) -/

/-- The twelve regions of the address space (R31). -/
inductive Region where
  | rom0
  | rom1
  | vram
  | eram
  | wramA
  | wramB
  | echo
  | oam
  | unusable
  | io
  | hram
  | ie
  deriving DecidableEq, Repr

/-- Region decode, "tested in ascending order by upper bound" (R31), on the address as a number. -/
def regionOf (a : Nat) : Region :=
  if a ≤ 0x3FFF then .rom0
  else if a ≤ 0x7FFF then .rom1
  else if a ≤ 0x9FFF then .vram
  else if a ≤ 0xBFFF then .eram
  else if a ≤ 0xCFFF then .wramA
  else if a ≤ 0xDFFF then .wramB
  else if a ≤ 0xFDFF then .echo
  else if a ≤ 0xFE9F then .oam
  else if a ≤ 0xFEFF then .unusable
  else if a ≤ 0xFF7F then .io
  else if a ≤ 0xFFFE then .hram
  else .ie

/-- Region decode of a 16-bit address (R31). -/
def region (a : Word) : Region := regionOf a.toNat

/-- Whether a number is the address of a byte that owns storage (R23: "Echo RAM and the 'not usable'
range own no storage"). -/
def ownsStorage (k : Nat) : Bool :=
  decide (k < 0x10000) && regionOf k != .echo && regionOf k != .unusable

/-- The canonical form of the storage list: addresses strictly rising, each of a byte that owns
storage, no cell equal to what an unlisted address reads as. -/
abbrev Memory.wf (m : Memory) : Prop :=
  m.Pairwise (fun x y => x.1 < y.1) ∧
    ∀ cell ∈ m, ownsStorage cell.1 = true ∧ cell.2 ≠ Config.memInit cell.1

/-- The address that owns the byte an access of `a` reaches: `a - 0x2000` for ECHO (R34), `a` itself
elsewhere, none in UNUSABLE (R36). -/
def storageAddress (a : Word) : Option Nat :=
  match region a with
  | .echo => some (a.toNat - 0x2000)
  | .unusable => none
  | .rom0 | .rom1 | .vram | .eram | .wramA | .wramB | .oam | .io | .hram | .ie => some a.toNat

/-- Whether a write to `a` is stored: not in ROM0, ROM1 and UNUSABLE (R33). -/
def writable (a : Word) : Bool :=
  match region a with
  | .rom0 | .rom1 | .unusable => false
  | .vram | .eram | .wramA | .wramB | .echo | .oam | .io | .hram | .ie => true

/-- `read_byte(a)` (R32). UNUSABLE reads as 0xFF (R36). -/
def State.readByte (s : State) (a : Word) : Byte :=
  match storageAddress a with
  | some k => s.mem.get k
  | none => 0xFF#8

/-- Stores `v` where `a`'s byte lives, ROM included: what `load_rom` does to a ROM byte (R47). No
instruction calls it directly. -/
def State.storeRaw (s : State) (a : Word) (v : Byte) : State :=
  match storageAddress a with
  | some k => { s with mem := s.mem.set k v }
  | none => s

/-- `write_byte(a, v)` (R33): ROM0, ROM1 and UNUSABLE discard the byte. -/
def State.writeByte (s : State) (a : Word) (v : Byte) : State :=
  if writable a then s.storeRaw a v else s

/-! ### Words (R40 to R42) -/

/-- Low byte of a word. -/
def lowByte (v : Word) : Byte := v.extractLsb' 0 8

/-- High byte of a word. -/
def highByte (v : Word) : Byte := v.extractLsb' 8 8

/-- `hi:lo` (00_scope.md section 5). -/
def word (hi lo : Byte) : Word := hi ++ lo

/-- `read_word(a)` (R40): low byte at `a`, high byte at `a + 1` modulo 65536. -/
def State.readWord (s : State) (a : Word) : Word :=
  word (s.readByte (a + 1#16)) (s.readByte a)

/-- `write_word(a, v)` (R41): the low byte at `a` first, then the high byte at `a + 1`. -/
def State.writeWord (s : State) (a : Word) (v : Word) : State :=
  (s.writeByte a (lowByte v)).writeByte (a + 1#16) (highByte v)

end Sys2Proof.Machine
end

