-- ==== Sys2Proof/Machine/Operands.lean ====
section
/-! DEFINITION. Operand access: the register file and its 16-bit views (10_state.md R10, R11), the r8
operand with its (HL) form (41_alu8.md R130), the flags of F (R12), conditions (46_control.md R230),
and the effective addresses of the memory operands (30_encoding.md R66). -/

namespace Sys2Proof.Machine

/-! ### 8-bit registers and pairs -/

/-- `R[r]` (R10). -/
def State.readR8 (s : State) : R8 → Byte
  | .b => s.b
  | .c => s.c
  | .d => s.d
  | .e => s.e
  | .h => s.h
  | .l => s.l
  | .a => s.a

/-- `R[r] <- v` (R10). -/
def State.writeR8 (s : State) (r : R8) (v : Byte) : State :=
  match r with
  | .b => { s with b := v }
  | .c => { s with c := v }
  | .d => { s with d := v }
  | .e => { s with e := v }
  | .h => { s with h := v }
  | .l => { s with l := v }
  | .a => { s with a := v }

/-- The pair BC (R11). -/
def State.bc (s : State) : Word := word s.b s.c

/-- The pair DE (R11). -/
def State.de (s : State) : Word := word s.d s.e

/-- The pair HL (R11). -/
def State.hl (s : State) : Word := word s.h s.l

/-- The pair AF (R11). -/
def State.af (s : State) : Word := word s.a s.f

/-- Writes both halves of BC (R11). -/
def State.setBc (s : State) (v : Word) : State := { s with b := highByte v, c := lowByte v }

/-- Writes both halves of DE (R11). -/
def State.setDe (s : State) (v : Word) : State := { s with d := highByte v, e := lowByte v }

/-- Writes both halves of HL (R11). -/
def State.setHl (s : State) (v : Word) : State := { s with h := highByte v, l := lowByte v }

/-- Writes both halves of AF (R11). -/
def State.setAf (s : State) (v : Word) : State := { s with a := highByte v, f := lowByte v }

/-- `RP[rr]` for an rp operand (30_encoding.md R69). -/
def State.readRp (s : State) : Rp → Word
  | .bc => s.bc
  | .de => s.de
  | .hl => s.hl
  | .sp => s.sp

/-- `RP[rr] <- v` for an rp operand (R69). -/
def State.writeRp (s : State) (p : Rp) (v : Word) : State :=
  match p with
  | .bc => s.setBc v
  | .de => s.setDe v
  | .hl => s.setHl v
  | .sp => { s with sp := v }

/-- `RP[rr]` for an rp2 operand (30_encoding.md R70). -/
def State.readRp2 (s : State) : Rp2 → Word
  | .bc => s.bc
  | .de => s.de
  | .hl => s.hl
  | .af => s.af

/-- `RP[rr] <- v` for an rp2 operand (R70). -/
def State.writeRp2 (s : State) (p : Rp2) (v : Word) : State :=
  match p with
  | .bc => s.setBc v
  | .de => s.setDe v
  | .hl => s.setHl v
  | .af => s.setAf v

/-! ### The r8 operand with its (HL) form (R130) -/

/-- An operand named by an r8 code: a register, or the byte at address HL (30_encoding.md R68). -/
inductive Operand8 where
  | reg (r : R8)
  | memHl
  deriving DecidableEq, Repr

/-- The operand an r8 code names (R68). -/
def operandOfCode (code : BitVec 3) : Operand8 :=
  match code.toNat with
  | 0 => .reg .b
  | 1 => .reg .c
  | 2 => .reg .d
  | 3 => .reg .e
  | 4 => .reg .h
  | 5 => .reg .l
  | 6 => .memHl
  | _ => .reg .a

/-- `ReadR8` (R130). -/
def State.readOperand (s : State) : Operand8 → Byte
  | .reg r => s.readR8 r
  | .memHl => s.readByte s.hl

/-- `WriteR8` (R130). -/
def State.writeOperand (s : State) (o : Operand8) (v : Byte) : State :=
  match o with
  | .reg r => s.writeR8 r v
  | .memHl => s.writeByte s.hl v

/-! ### Flags (R12) -/

/-- Z, bit 7 of F. -/
def State.flagZ (s : State) : Bool := s.f.getLsbD 7

/-- N, bit 6 of F. -/
def State.flagN (s : State) : Bool := s.f.getLsbD 6

/-- H, bit 5 of F. -/
def State.flagH (s : State) : Bool := s.f.getLsbD 5

/-- C, bit 4 of F. -/
def State.flagC (s : State) : Bool := s.f.getLsbD 4

/-- A Boolean placed at bit `k` of a byte. -/
def bitAt (b : Bool) (k : Nat) : Byte := if b then 1#8 <<< k else 0#8

/-- F with its four flags replaced and bits 3..0 kept: "flag rules write only bits 7..4"
(10_state.md R13, log entry 27). -/
def packFlags (z n h c : Bool) (old : Byte) : Byte :=
  bitAt z 7 ||| bitAt n 6 ||| bitAt h 5 ||| bitAt c 4 ||| (old &&& 0x0F#8)

/-- Writes the four flags. -/
def State.setFlags (s : State) (z n h c : Bool) : State :=
  { s with f := packFlags z n h c s.f }

/-- `cond(cc)` (46_control.md R230). -/
def State.cond (s : State) : Cond → Bool
  | .nz => !s.flagZ
  | .z => s.flagZ
  | .nc => !s.flagC
  | .c => s.flagC

/-! ### Effective addresses and displacements -/

/-- `0xFF00 + a8` (30_encoding.md R66). -/
def highPage (offset : Byte) : Word := word 0xFF#8 offset

/-- `sext_16(e8)` (00_scope.md section 5, 30_encoding.md R65). -/
def displacement (e8 : Byte) : Word := e8.signExtend 16

end Sys2Proof.Machine
end

