-- ==== Sys2Proof/Machine/Flags.lean ====
section
/-! DEFINITION. Results and flags, computed on unbounded integers and narrowed at the end as the
spec's pseudocode does (00_scope.md section 5): 41_alu8.md R131, R132 and the INC and DEC rules,
42_alu16.md R172, 43_rotate_shift.md R184, 45_bcd_flags.md R220, 47_stack_sp.md R256. -/

namespace Sys2Proof.Machine

/-- An 8-bit result with the four flags that go with it. -/
structure AluOut where
  r : Byte
  z : Bool
  n : Bool
  h : Bool
  c : Bool
  deriving DecidableEq, Repr

/-- `Add8(a, b, cin)` (R131). -/
def add8 (a b : Byte) (cin : Bool) : AluOut where
  r := BitVec.ofNat 8 (a.toNat + b.toNat + cin.toNat)
  z := BitVec.ofNat 8 (a.toNat + b.toNat + cin.toNat) == 0#8
  n := false
  h := decide (a.toNat % 16 + b.toNat % 16 + cin.toNat > 0xF)
  c := decide (a.toNat + b.toNat + cin.toNat > 0xFF)

/-- `Sub8(a, b, cin)` (R132). -/
def sub8 (a b : Byte) (cin : Bool) : AluOut where
  r := BitVec.ofInt 8 ((a.toNat : Int) - b.toNat - cin.toNat)
  z := BitVec.ofInt 8 ((a.toNat : Int) - b.toNat - cin.toNat) == 0#8
  n := true
  h := decide ((a.toNat : Int) % 16 - (b.toNat : Int) % 16 - cin.toNat < 0)
  c := decide ((a.toNat : Int) - b.toNat - cin.toNat < 0)

/-- AND (R145): "Half-carry is always set for AND". -/
def and8 (a b : Byte) : AluOut where
  r := a &&& b
  z := (a &&& b) == 0#8
  n := false
  h := true
  c := false

/-- XOR (R148). -/
def xor8 (a b : Byte) : AluOut where
  r := a ^^^ b
  z := (a ^^^ b) == 0#8
  n := false
  h := false
  c := false

/-- OR (R151). -/
def or8 (a b : Byte) : AluOut where
  r := a ||| b
  z := (a ||| b) == 0#8
  n := false
  h := false
  c := false

/-- The result and flags of ALU[op] on A and an operand (R133 to R156); CP's as SUB's (R154). -/
def aluOut (op : AluOp) (a b : Byte) (cin : Bool) : AluOut :=
  match op with
  | .add => add8 a b false
  | .adc => add8 a b cin
  | .sub => sub8 a b false
  | .sbc => sub8 a b cin
  | .and => and8 a b
  | .xor => xor8 a b
  | .or => or8 a b
  | .cp => sub8 a b false

/-- INC of an 8-bit operand (R157): C keeps the value `c`. -/
def inc8 (v : Byte) (c : Bool) : AluOut where
  r := v + 1#8
  z := v + 1#8 == 0#8
  n := false
  h := v &&& 0x0F#8 == 0x0F#8
  c := c

/-- DEC of an 8-bit operand (R159): C keeps the value `c`. -/
def dec8 (v : Byte) (c : Bool) : AluOut where
  r := v - 1#8
  z := v - 1#8 == 0#8
  n := true
  h := v &&& 0x0F#8 == 0x00#8
  c := c

/-- The shift functions: (result, carry out) for `v` and the carry flag before (R184). -/
def rotate (op : RotOp) (v : Byte) (cin : Bool) : Byte × Bool :=
  match op with
  | .rlc => ((v <<< 1) ||| bitAt (v.getLsbD 7) 0, v.getLsbD 7)
  | .rrc => ((v >>> 1) ||| bitAt (v.getLsbD 0) 7, v.getLsbD 0)
  | .rl => ((v <<< 1) ||| bitAt cin 0, v.getLsbD 7)
  | .rr => ((v >>> 1) ||| bitAt cin 7, v.getLsbD 0)
  | .sla => (v <<< 1, v.getLsbD 7)
  | .sra => ((v >>> 1) ||| (v &&& 0x80#8), v.getLsbD 0)
  | .swap => (((v &&& 0x0F#8) <<< 4) ||| (v >>> 4), false)
  | .srl => (v >>> 1, v.getLsbD 0)

/-- A 16-bit result with the half-carry and carry that go with it. -/
structure WideOut where
  r : Word
  h : Bool
  c : Bool
  deriving DecidableEq, Repr

/-- ADD HL,r16 (R172): H is the carry out of bit 11, C the carry out of bit 15. -/
def add16 (a b : Word) : WideOut where
  r := BitVec.ofNat 16 (a.toNat + b.toNat)
  h := decide (a.toNat % 0x1000 + b.toNat % 0x1000 > 0xFFF)
  c := decide (a.toNat + b.toNat > 0xFFFF)

/-- `SPAdd(e8)` (R256) for a value `hBit` of SPE_H_BIT: H is bit `hBit` and C bit 8 of
`SP ^ e ^ r`. -/
def spAdd (hBit : Nat) (sp : Word) (e8 : Byte) : WideOut where
  r := sp + displacement e8
  h := (sp ^^^ displacement e8 ^^^ (sp + displacement e8)).getLsbD hBit
  c := (sp ^^^ displacement e8 ^^^ (sp + displacement e8)).getLsbD 8

/-- DAA's 0x60 test on the addition path, on A before the instruction (R220). -/
def daaHigh (a : Byte) (c : Bool) : Bool := c || decide (a.toNat > 0x99)

/-- DAA's 0x06 test on the addition path, on A before the instruction (R220). -/
def daaLow (a : Byte) (h : Bool) : Bool := h || decide (a.toNat % 16 > 0x09)

/-- DAA's adjustment from its two tests (R220). -/
def daaAdjust (high low : Bool) : Byte :=
  (if high then 0x60#8 else 0#8) ||| (if low then 0x06#8 else 0#8)

/-- DAA (R220): the new A and the new C. Both tests read A before the instruction, and C keeps its
value after a subtraction (log entry 8). -/
def daaOut (a : Byte) (n h c : Bool) : Byte × Bool :=
  if n then (a - daaAdjust c h, c)
  else (a + daaAdjust (daaHigh a c) (daaLow a h), daaHigh a c)

end Sys2Proof.Machine
end

