-- ==== Sys2Proof/Machine/Ops.lean ====
section
/-! DEFINITION. The shared operations: stack (20_memory.md R45, R46), fetch (30_encoding.md R61, R64),
the fatal condition (48_system.md R276), and taking an interrupt and returning from one
(60_exceptions.md R303 to R311, 46_control.md R240). -/

namespace Sys2Proof.Machine

/-- The implementation parameters this model runs with (00_scope.md R2, R3). -/
def params : Config.Params := Config.Params.spec

/-! ### Stack -/

/-- `Push16(v)` (R45). -/
def State.push16 (s : State) (v : Word) : State :=
  State.writeWord { s with sp := s.sp - 2#16 } (s.sp - 2#16) v

/-- `Pop16()` (R46): the word at SP, and the state with SP advanced by 2. -/
def State.pop16 (s : State) : Word × State :=
  (s.readWord s.sp, { s with sp := s.sp + 2#16 })

/-! ### Fetch -/

/-- `Fetch8()` (R61). -/
def State.fetch8 (s : State) : Byte × State :=
  (s.readByte s.pc, { s with pc := s.pc + 1#16 })

/-! ### The fatal condition -/

/-- `raise Fatal(op, addr)` (R276): `addr` is PC - 1, where the opcode was fetched from. The step that
raises it ends without the interrupt check: see `cycle`. -/
def State.raiseFatal (s : State) (op : Byte) : State :=
  { s with fatal := some { opcode := op, addr := s.pc - 1#16 } }

/-! ### Interrupts -/

/-- The address of the Interrupt Flag register IF (10_state.md R21). -/
def ifAddress : Word := 0xFF0F#16

/-- The address of the Interrupt Enable register IE (10_state.md R22). -/
def ieAddress : Word := 0xFFFF#16

/-- The bit of a source in IF and IE (R300). -/
def sourceBit : InterruptSource → Nat
  | .vblank => 0
  | .lcdStat => 1
  | .timer => 2
  | .serial => 3
  | .joypad => 4

/-- The fixed vector of a source (R300). -/
def sourceVector : InterruptSource → Word
  | .vblank => 0x0040#16
  | .lcdStat => 0x0048#16
  | .timer => 0x0050#16
  | .serial => 0x0058#16
  | .joypad => 0x0060#16

/-- `active = IF & IE` (R303). -/
def State.activeRequests (s : State) : Byte := s.readByte ifAddress &&& s.readByte ieAddress

/-- The source of the lowest set bit among bits 4..0 (R304, R305). -/
def lowestSource (active : Byte) : Option InterruptSource :=
  if active.getLsbD 0 then some .vblank
  else if active.getLsbD 1 then some .lcdStat
  else if active.getLsbD 2 then some .timer
  else if active.getLsbD 3 then some .serial
  else if active.getLsbD 4 then some .joypad
  else none

/-- Phase 1 of the check, wake-up (R303): any non-zero IF byte clears `halted`. -/
def State.wakeUp (s : State) : State :=
  if s.readByte ifAddress = 0#8 then s else { s with halted := false }

/-- Clears one request bit in IF as IF is now (R304). -/
def State.clearRequest (s : State) (k : InterruptSource) : State :=
  s.writeByte ifAddress (s.readByte ifAddress &&& ~~~(1#8 <<< sourceBit k))

/-- Taking an interrupt, phase 2 of the check (R304, R309): IME cleared, PC pushed, the request bit
cleared in IF as it is after the push (log entry 14), PC at the vector. -/
def State.takeInterrupt (s : State) (k : InterruptSource) : State :=
  { State.clearRequest (State.push16 { s with ime := false } s.pc) k with pc := sourceVector k }

/-- `InterruptCheck()` (R303, R304): `active` is read before anything is written. -/
def State.interruptCheck (s : State) : State :=
  if s.ime then
    match lowestSource s.activeRequests with
    | some k => s.wakeUp.takeInterrupt k
    | none => s.wakeUp
  else s.wakeUp

/-- Returning with the word on top of the stack (46_control.md R238). -/
def State.returnFrom (s : State) : State :=
  { s with sp := s.sp + 2#16, pc := s.readWord s.sp }

/-- Return from interrupt (46_control.md R240, 60_exceptions.md R310): pops PC and sets IME. -/
def State.returnFromInterrupt (s : State) : State :=
  { s.returnFrom with ime := true }

/-- Pushes PC and jumps (46_control.md R236, R241). -/
def State.callTo (s : State) (target : Word) : State :=
  { s.push16 s.pc with pc := target }

end Sys2Proof.Machine
end

