-- ==== Sys2Proof/Machine/Cycle.lean ====
section
/-! DEFINITION. What a step does around the instruction's own effect (30_encoding.md R60): the fatal,
stopped and halted cases, fetching and decoding, and the interrupt check; and placing an instruction
where the next step fetches it. -/

namespace Sys2Proof.Machine

/-- Fetches and decodes one instruction with `Fetch8` (R60 to R64): the instruction, and the state with
PC past its bytes. No instruction writes memory before its last operand byte is fetched, so fetching
them all first is the order of the spec (log entry 18). -/
def State.fetchInstr (s : State) : Instr × State :=
  if s.fetch8.1 = 0xCB#8 then
    (decodeCb s.fetch8.2.fetch8.1, s.fetch8.2.fetch8.2)
  else
    match primaryLength s.fetch8.1 with
    | 2 => (decodePrimary s.fetch8.1 s.fetch8.2.fetch8.1 0#8, s.fetch8.2.fetch8.2)
    | 3 =>
      (decodePrimary s.fetch8.1 s.fetch8.2.fetch8.1 s.fetch8.2.fetch8.2.fetch8.1,
        s.fetch8.2.fetch8.2.fetch8.2)
    | _ => (decodePrimary s.fetch8.1 0#8 0#8, s.fetch8.2)

/-- The end of a step that executed an instruction: the interrupt check, but not after the fatal
condition (R60, 48_system.md R276). -/
def State.finishStep (s : State) : State :=
  if s.fatal.isSome then s else s.interruptCheck

/-- An outcome with a function applied to its next state. -/
def mapNext (g : State → State) : Result → Result
  | .next t => .next (g t)
  | .fault r => .fault r
  | .refused r => .refused r

/-- `step()` (R60) over the instructions' meanings `run`: nothing after the fatal condition and while
stopped, the interrupt check alone while halted, else one instruction and the check. -/
def cycle (run : Instr → State → Result) (s : State) : Result :=
  if s.fatal.isSome then .next s
  else if s.stopped then .next s
  else if s.halted then .next s.interruptCheck
  else mapNext State.finishStep (run s.fetchInstr.1 s.fetchInstr.2)

/-! ### Placing an instruction -/

/-- The three bytes of a table word's instruction, zeros after it. -/
def placedByte (nbits w k : Nat) : Byte := (tableBytes nbits w).getD k 0#8

/-- Where an instruction can be placed: PC, or the entry point 0x0100 where one of the three bytes from
PC lies in UNUSABLE, which stores nothing (log entry 20). -/
def State.placeAt (s : State) : Word :=
  if (storageAddress s.pc).isSome && (storageAddress (s.pc + 1#16)).isSome &&
      (storageAddress (s.pc + 2#16)).isSome
  then s.pc else 0x0100#16

/-- `s` ready to fetch and run the instruction of a table word: its bytes stored where they are
fetched, as `load_rom` would (ROM included), and no fatal, stopped or halted state in the way. -/
def State.placeInstr (s : State) (nbits w : Nat) : State :=
  { ((s.storeRaw s.placeAt (placedByte nbits w 0)).storeRaw (s.placeAt + 1#16)
      (placedByte nbits w 1)).storeRaw (s.placeAt + 2#16) (placedByte nbits w 2) with
    pc := s.placeAt, halted := false, stopped := false, fatal := none }

end Sys2Proof.Machine
end

