-- ==== Sys2Proof/Machine/Alu16.lean ====
section
/-! DEFINITION. 16-bit arithmetic (42_alu16.md R170 to R172). One meaning per
instruction; PC is already past the instruction's bytes (00_scope.md section 6, log entry 18). -/

namespace Sys2Proof.Machine

/-- ADD HL,r16 (R172): Z unchanged, N cleared. -/
def State.addToHl (s : State) (operand : Word) : State :=
  (s.setHl (add16 s.hl operand).r).setFlags s.flagZ false (add16 s.hl operand).h (add16 s.hl operand).c

/-- INC BC (R170). -/
def execIncBc (s : State) : Result := .next (s.writeRp .bc (s.readRp .bc + 1#16))

/-- ADD HL,BC (R172). -/
def execAddHlBc (s : State) : Result := .next (s.addToHl (s.readRp .bc))

/-- DEC BC (R171). -/
def execDecBc (s : State) : Result := .next (s.writeRp .bc (s.readRp .bc - 1#16))

/-- INC DE (R170). -/
def execIncDe (s : State) : Result := .next (s.writeRp .de (s.readRp .de + 1#16))

/-- ADD HL,DE (R172). -/
def execAddHlDe (s : State) : Result := .next (s.addToHl (s.readRp .de))

/-- DEC DE (R171). -/
def execDecDe (s : State) : Result := .next (s.writeRp .de (s.readRp .de - 1#16))

/-- INC HL (R170). -/
def execIncHl (s : State) : Result := .next (s.writeRp .hl (s.readRp .hl + 1#16))

/-- ADD HL,HL (R172). -/
def execAddHlHl (s : State) : Result := .next (s.addToHl (s.readRp .hl))

/-- DEC HL (R171). -/
def execDecHl (s : State) : Result := .next (s.writeRp .hl (s.readRp .hl - 1#16))

/-- INC SP (R170). -/
def execIncSp (s : State) : Result := .next (s.writeRp .sp (s.readRp .sp + 1#16))

/-- ADD HL,SP (R172). -/
def execAddHlSp (s : State) : Result := .next (s.addToHl (s.readRp .sp))

/-- DEC SP (R171). -/
def execDecSp (s : State) : Result := .next (s.writeRp .sp (s.readRp .sp - 1#16))

end Sys2Proof.Machine
end

