-- ==== Sys2Proof/Machine/Alu8.lean ====
section
/-! DEFINITION. 8-bit arithmetic and logic (41_alu8.md R133 to R160). One meaning per
instruction; PC is already past the instruction's bytes (00_scope.md section 6, log entry 18). -/

namespace Sys2Proof.Machine

/-- Writes the four flags of a result. -/
def State.setFlagsOf (s : State) (out : AluOut) : State := s.setFlags out.z out.n out.h out.c

/-- A written with a result, except by CP, whose result is discarded (R154). -/
def State.putAccumulator (s : State) (op : AluOp) (r : Byte) : State :=
  match op with
  | .add | .adc | .sub | .sbc | .and | .xor | .or => { s with a := r }
  | .cp => s

/-- ALU[op] on A and an operand byte (R133 to R156). -/
def State.alu (s : State) (op : AluOp) (operand : Byte) : State :=
  (s.putAccumulator op (aluOut op s.a operand s.flagC).r).setFlagsOf (aluOut op s.a operand s.flagC)

/-- INC of an 8-bit operand by read, modify, write (R157, R158). -/
def State.incOperand (s : State) (o : Operand8) : State :=
  (s.writeOperand o (inc8 (s.readOperand o) s.flagC).r).setFlagsOf (inc8 (s.readOperand o) s.flagC)

/-- DEC of an 8-bit operand by read, modify, write (R159, R160). -/
def State.decOperand (s : State) (o : Operand8) : State :=
  (s.writeOperand o (dec8 (s.readOperand o) s.flagC).r).setFlagsOf (dec8 (s.readOperand o) s.flagC)

/-- INC B (R157). -/
def execIncB (s : State) : Result := .next (s.incOperand (.reg .b))

/-- DEC B (R159). -/
def execDecB (s : State) : Result := .next (s.decOperand (.reg .b))

/-- INC C (R157). -/
def execIncC (s : State) : Result := .next (s.incOperand (.reg .c))

/-- DEC C (R159). -/
def execDecC (s : State) : Result := .next (s.decOperand (.reg .c))

/-- INC D (R157). -/
def execIncD (s : State) : Result := .next (s.incOperand (.reg .d))

/-- DEC D (R159). -/
def execDecD (s : State) : Result := .next (s.decOperand (.reg .d))

/-- INC E (R157). -/
def execIncE (s : State) : Result := .next (s.incOperand (.reg .e))

/-- DEC E (R159). -/
def execDecE (s : State) : Result := .next (s.decOperand (.reg .e))

/-- INC H (R157). -/
def execIncH (s : State) : Result := .next (s.incOperand (.reg .h))

/-- DEC H (R159). -/
def execDecH (s : State) : Result := .next (s.decOperand (.reg .h))

/-- INC L (R157). -/
def execIncL (s : State) : Result := .next (s.incOperand (.reg .l))

/-- DEC L (R159). -/
def execDecL (s : State) : Result := .next (s.decOperand (.reg .l))

/-- INC (HL) (R158). -/
def execIncMemHl (s : State) : Result := .next (s.incOperand .memHl)

/-- DEC (HL) (R160). -/
def execDecMemHl (s : State) : Result := .next (s.decOperand .memHl)

/-- INC A (R157). -/
def execIncA (s : State) : Result := .next (s.incOperand (.reg .a))

/-- DEC A (R159). -/
def execDecA (s : State) : Result := .next (s.decOperand (.reg .a))

/-- ADD A,B (R133). -/
def execAddAB (s : State) : Result := .next (s.alu .add (s.readOperand (.reg .b)))

/-- ADD A,C (R133). -/
def execAddAC (s : State) : Result := .next (s.alu .add (s.readOperand (.reg .c)))

/-- ADD A,D (R133). -/
def execAddAD (s : State) : Result := .next (s.alu .add (s.readOperand (.reg .d)))

/-- ADD A,E (R133). -/
def execAddAE (s : State) : Result := .next (s.alu .add (s.readOperand (.reg .e)))

/-- ADD A,H (R133). -/
def execAddAH (s : State) : Result := .next (s.alu .add (s.readOperand (.reg .h)))

/-- ADD A,L (R133). -/
def execAddAL (s : State) : Result := .next (s.alu .add (s.readOperand (.reg .l)))

/-- ADD A,(HL) (R134). -/
def execAddAMemHl (s : State) : Result := .next (s.alu .add (s.readOperand .memHl))

/-- ADD A,A (R133). -/
def execAddAA (s : State) : Result := .next (s.alu .add (s.readOperand (.reg .a)))

/-- ADC A,B (R136). -/
def execAdcAB (s : State) : Result := .next (s.alu .adc (s.readOperand (.reg .b)))

/-- ADC A,C (R136). -/
def execAdcAC (s : State) : Result := .next (s.alu .adc (s.readOperand (.reg .c)))

/-- ADC A,D (R136). -/
def execAdcAD (s : State) : Result := .next (s.alu .adc (s.readOperand (.reg .d)))

/-- ADC A,E (R136). -/
def execAdcAE (s : State) : Result := .next (s.alu .adc (s.readOperand (.reg .e)))

/-- ADC A,H (R136). -/
def execAdcAH (s : State) : Result := .next (s.alu .adc (s.readOperand (.reg .h)))

/-- ADC A,L (R136). -/
def execAdcAL (s : State) : Result := .next (s.alu .adc (s.readOperand (.reg .l)))

/-- ADC A,(HL) (R137). -/
def execAdcAMemHl (s : State) : Result := .next (s.alu .adc (s.readOperand .memHl))

/-- ADC A,A (R136). -/
def execAdcAA (s : State) : Result := .next (s.alu .adc (s.readOperand (.reg .a)))

/-- SUB B (R139). -/
def execSubB (s : State) : Result := .next (s.alu .sub (s.readOperand (.reg .b)))

/-- SUB C (R139). -/
def execSubC (s : State) : Result := .next (s.alu .sub (s.readOperand (.reg .c)))

/-- SUB D (R139). -/
def execSubD (s : State) : Result := .next (s.alu .sub (s.readOperand (.reg .d)))

/-- SUB E (R139). -/
def execSubE (s : State) : Result := .next (s.alu .sub (s.readOperand (.reg .e)))

/-- SUB H (R139). -/
def execSubH (s : State) : Result := .next (s.alu .sub (s.readOperand (.reg .h)))

/-- SUB L (R139). -/
def execSubL (s : State) : Result := .next (s.alu .sub (s.readOperand (.reg .l)))

/-- SUB (HL) (R140). -/
def execSubMemHl (s : State) : Result := .next (s.alu .sub (s.readOperand .memHl))

/-- SUB A (R139). -/
def execSubA (s : State) : Result := .next (s.alu .sub (s.readOperand (.reg .a)))

/-- SBC A,B (R142). -/
def execSbcAB (s : State) : Result := .next (s.alu .sbc (s.readOperand (.reg .b)))

/-- SBC A,C (R142). -/
def execSbcAC (s : State) : Result := .next (s.alu .sbc (s.readOperand (.reg .c)))

/-- SBC A,D (R142). -/
def execSbcAD (s : State) : Result := .next (s.alu .sbc (s.readOperand (.reg .d)))

/-- SBC A,E (R142). -/
def execSbcAE (s : State) : Result := .next (s.alu .sbc (s.readOperand (.reg .e)))

/-- SBC A,H (R142). -/
def execSbcAH (s : State) : Result := .next (s.alu .sbc (s.readOperand (.reg .h)))

/-- SBC A,L (R142). -/
def execSbcAL (s : State) : Result := .next (s.alu .sbc (s.readOperand (.reg .l)))

/-- SBC A,(HL) (R143). -/
def execSbcAMemHl (s : State) : Result := .next (s.alu .sbc (s.readOperand .memHl))

/-- SBC A,A (R142). -/
def execSbcAA (s : State) : Result := .next (s.alu .sbc (s.readOperand (.reg .a)))

/-- AND B (R145). -/
def execAndB (s : State) : Result := .next (s.alu .and (s.readOperand (.reg .b)))

/-- AND C (R145). -/
def execAndC (s : State) : Result := .next (s.alu .and (s.readOperand (.reg .c)))

/-- AND D (R145). -/
def execAndD (s : State) : Result := .next (s.alu .and (s.readOperand (.reg .d)))

/-- AND E (R145). -/
def execAndE (s : State) : Result := .next (s.alu .and (s.readOperand (.reg .e)))

/-- AND H (R145). -/
def execAndH (s : State) : Result := .next (s.alu .and (s.readOperand (.reg .h)))

/-- AND L (R145). -/
def execAndL (s : State) : Result := .next (s.alu .and (s.readOperand (.reg .l)))

/-- AND (HL) (R146). -/
def execAndMemHl (s : State) : Result := .next (s.alu .and (s.readOperand .memHl))

/-- AND A (R145). -/
def execAndA (s : State) : Result := .next (s.alu .and (s.readOperand (.reg .a)))

/-- XOR B (R148). -/
def execXorB (s : State) : Result := .next (s.alu .xor (s.readOperand (.reg .b)))

/-- XOR C (R148). -/
def execXorC (s : State) : Result := .next (s.alu .xor (s.readOperand (.reg .c)))

/-- XOR D (R148). -/
def execXorD (s : State) : Result := .next (s.alu .xor (s.readOperand (.reg .d)))

/-- XOR E (R148). -/
def execXorE (s : State) : Result := .next (s.alu .xor (s.readOperand (.reg .e)))

/-- XOR H (R148). -/
def execXorH (s : State) : Result := .next (s.alu .xor (s.readOperand (.reg .h)))

/-- XOR L (R148). -/
def execXorL (s : State) : Result := .next (s.alu .xor (s.readOperand (.reg .l)))

/-- XOR (HL) (R149). -/
def execXorMemHl (s : State) : Result := .next (s.alu .xor (s.readOperand .memHl))

/-- XOR A (R148). -/
def execXorA (s : State) : Result := .next (s.alu .xor (s.readOperand (.reg .a)))

/-- OR B (R151). -/
def execOrB (s : State) : Result := .next (s.alu .or (s.readOperand (.reg .b)))

/-- OR C (R151). -/
def execOrC (s : State) : Result := .next (s.alu .or (s.readOperand (.reg .c)))

/-- OR D (R151). -/
def execOrD (s : State) : Result := .next (s.alu .or (s.readOperand (.reg .d)))

/-- OR E (R151). -/
def execOrE (s : State) : Result := .next (s.alu .or (s.readOperand (.reg .e)))

/-- OR H (R151). -/
def execOrH (s : State) : Result := .next (s.alu .or (s.readOperand (.reg .h)))

/-- OR L (R151). -/
def execOrL (s : State) : Result := .next (s.alu .or (s.readOperand (.reg .l)))

/-- OR (HL) (R152). -/
def execOrMemHl (s : State) : Result := .next (s.alu .or (s.readOperand .memHl))

/-- OR A (R151). -/
def execOrA (s : State) : Result := .next (s.alu .or (s.readOperand (.reg .a)))

/-- CP B (R154). -/
def execCpB (s : State) : Result := .next (s.alu .cp (s.readOperand (.reg .b)))

/-- CP C (R154). -/
def execCpC (s : State) : Result := .next (s.alu .cp (s.readOperand (.reg .c)))

/-- CP D (R154). -/
def execCpD (s : State) : Result := .next (s.alu .cp (s.readOperand (.reg .d)))

/-- CP E (R154). -/
def execCpE (s : State) : Result := .next (s.alu .cp (s.readOperand (.reg .e)))

/-- CP H (R154). -/
def execCpH (s : State) : Result := .next (s.alu .cp (s.readOperand (.reg .h)))

/-- CP L (R154). -/
def execCpL (s : State) : Result := .next (s.alu .cp (s.readOperand (.reg .l)))

/-- CP (HL) (R155). -/
def execCpMemHl (s : State) : Result := .next (s.alu .cp (s.readOperand .memHl))

/-- CP A (R154). -/
def execCpA (s : State) : Result := .next (s.alu .cp (s.readOperand (.reg .a)))

/-- ADD A,n8 (R135). -/
def execAddAN8 (n8 : Byte) (s : State) : Result := .next (s.alu .add n8)

/-- ADC A,n8 (R138). -/
def execAdcAN8 (n8 : Byte) (s : State) : Result := .next (s.alu .adc n8)

/-- SUB n8 (R141). -/
def execSubN8 (n8 : Byte) (s : State) : Result := .next (s.alu .sub n8)

/-- SBC A,n8 (R144). -/
def execSbcAN8 (n8 : Byte) (s : State) : Result := .next (s.alu .sbc n8)

/-- AND n8 (R147). -/
def execAndN8 (n8 : Byte) (s : State) : Result := .next (s.alu .and n8)

/-- XOR n8 (R150). -/
def execXorN8 (n8 : Byte) (s : State) : Result := .next (s.alu .xor n8)

/-- OR n8 (R153). -/
def execOrN8 (n8 : Byte) (s : State) : Result := .next (s.alu .or n8)

/-- CP n8 (R156). -/
def execCpN8 (n8 : Byte) (s : State) : Result := .next (s.alu .cp n8)

end Sys2Proof.Machine
end

