-- ==== Sys2Proof/Machine/Bcd.lean ====
section
/-! DEFINITION. Decimal adjust and flag instructions (45_bcd_flags.md R220 to R223). One meaning per
instruction; PC is already past the instruction's bytes (00_scope.md section 6, log entry 18). -/

namespace Sys2Proof.Machine

/-- DAA (R220). -/
def execDaa (s : State) : Result :=
  .next (State.setFlags { s with a := (daaOut s.a s.flagN s.flagH s.flagC).1 }
    ((daaOut s.a s.flagN s.flagH s.flagC).1 == 0#8) s.flagN false
    (daaOut s.a s.flagN s.flagH s.flagC).2)

/-- CPL (R221). -/
def execCpl (s : State) : Result :=
  .next (State.setFlags { s with a := ~~~s.a } s.flagZ true true s.flagC)

/-- SCF (R222). -/
def execScf (s : State) : Result := .next (s.setFlags s.flagZ false false true)

/-- CCF (R223). -/
def execCcf (s : State) : Result := .next (s.setFlags s.flagZ false false (!s.flagC))

end Sys2Proof.Machine
end

