-- ==== Sys2Proof/Machine/Control.lean ====
section
/-! DEFINITION. Control transfer (46_control.md R230 to R241). None writes a flag. One meaning per
instruction; PC is already past the instruction's bytes (00_scope.md section 6, log entry 18). -/

namespace Sys2Proof.Machine

/-- A relative jump (R231): the displacement is added to PC after the instruction. -/
def State.jumpRelative (s : State) (e8 : Byte) : State := { s with pc := s.pc + displacement e8 }

/-- An absolute jump (R233). -/
def State.jumpTo (s : State) (target : Word) : State := { s with pc := target }

/-- Takes the transfer if the condition holds, else continues (R232, R234, R237, R239). -/
def State.transferIf (s : State) (cc : Cond) (taken : State) : State := if s.cond cc then taken else s

/-- JR e8 (R231). -/
def execJrE8 (e8 : Byte) (s : State) : Result := .next (s.jumpRelative e8)

/-- JR NZ,e8 (R232). -/
def execJrNzE8 (e8 : Byte) (s : State) : Result := .next (s.transferIf .nz (s.jumpRelative e8))

/-- JR Z,e8 (R232). -/
def execJrZE8 (e8 : Byte) (s : State) : Result := .next (s.transferIf .z (s.jumpRelative e8))

/-- JR NC,e8 (R232). -/
def execJrNcE8 (e8 : Byte) (s : State) : Result := .next (s.transferIf .nc (s.jumpRelative e8))

/-- JR C,e8 (R232). -/
def execJrCE8 (e8 : Byte) (s : State) : Result := .next (s.transferIf .c (s.jumpRelative e8))

/-- RET NZ (R239). -/
def execRetNz (s : State) : Result := .next (s.transferIf .nz s.returnFrom)

/-- JP NZ,a16 (R234). -/
def execJpNzA16 (a16 : Word) (s : State) : Result := .next (s.transferIf .nz (s.jumpTo a16))

/-- JP a16 (R233). -/
def execJpA16 (a16 : Word) (s : State) : Result := .next (s.jumpTo a16)

/-- CALL NZ,a16 (R237). -/
def execCallNzA16 (a16 : Word) (s : State) : Result := .next (s.transferIf .nz (s.callTo a16))

/-- RST 0x00 (R241). -/
def execRst00 (s : State) : Result := .next (s.callTo 0x0000#16)

/-- RET Z (R239). -/
def execRetZ (s : State) : Result := .next (s.transferIf .z s.returnFrom)

/-- RET (R238). -/
def execRet (s : State) : Result := .next s.returnFrom

/-- JP Z,a16 (R234). -/
def execJpZA16 (a16 : Word) (s : State) : Result := .next (s.transferIf .z (s.jumpTo a16))

/-- CALL Z,a16 (R237). -/
def execCallZA16 (a16 : Word) (s : State) : Result := .next (s.transferIf .z (s.callTo a16))

/-- CALL a16 (R236). -/
def execCallA16 (a16 : Word) (s : State) : Result := .next (s.callTo a16)

/-- RST 0x08 (R241). -/
def execRst08 (s : State) : Result := .next (s.callTo 0x0008#16)

/-- RET NC (R239). -/
def execRetNc (s : State) : Result := .next (s.transferIf .nc s.returnFrom)

/-- JP NC,a16 (R234). -/
def execJpNcA16 (a16 : Word) (s : State) : Result := .next (s.transferIf .nc (s.jumpTo a16))

/-- CALL NC,a16 (R237). -/
def execCallNcA16 (a16 : Word) (s : State) : Result := .next (s.transferIf .nc (s.callTo a16))

/-- RST 0x10 (R241). -/
def execRst10 (s : State) : Result := .next (s.callTo 0x0010#16)

/-- RET C (R239). -/
def execRetC (s : State) : Result := .next (s.transferIf .c s.returnFrom)

/-- RETI (R240). -/
def execReti (s : State) : Result := .next s.returnFromInterrupt

/-- JP C,a16 (R234). -/
def execJpCA16 (a16 : Word) (s : State) : Result := .next (s.transferIf .c (s.jumpTo a16))

/-- CALL C,a16 (R237). -/
def execCallCA16 (a16 : Word) (s : State) : Result := .next (s.transferIf .c (s.callTo a16))

/-- RST 0x18 (R241). -/
def execRst18 (s : State) : Result := .next (s.callTo 0x0018#16)

/-- RST 0x20 (R241). -/
def execRst20 (s : State) : Result := .next (s.callTo 0x0020#16)

/-- JP HL (R235). -/
def execJpHl (s : State) : Result := .next (s.jumpTo s.hl)

/-- RST 0x28 (R241). -/
def execRst28 (s : State) : Result := .next (s.callTo 0x0028#16)

/-- RST 0x30 (R241). -/
def execRst30 (s : State) : Result := .next (s.callTo 0x0030#16)

/-- RST 0x38 (R241). -/
def execRst38 (s : State) : Result := .next (s.callTo 0x0038#16)

end Sys2Proof.Machine
end

