-- ==== Sys2Proof/Machine/Load8.lean ====
section
/-! DEFINITION. 8-bit loads (40_load8.md). None writes a flag, none raises an exception. One meaning per
instruction; PC is already past the instruction's bytes (00_scope.md section 6, log entry 18). -/

namespace Sys2Proof.Machine

/-- `RP[HL] <- RP[HL] + k` modulo 65536, the adjustment of (HL+) and (HL-) (R109 to R112). -/
def State.adjustHl (s : State) (k : Word) : State := s.setHl (s.hl + k)

/-- Stores A at an address. -/
def State.storeA (s : State) (addr : Word) : State := s.writeByte addr s.a

/-- Loads the byte at an address into A. -/
def State.loadA (s : State) (addr : Word) : State := { s with a := s.readByte addr }

/-- LD (BC),A (R105). -/
def execLdMemBcA (s : State) : Result := .next (s.storeA s.bc)

/-- LD B,n8 (R103). -/
def execLdBN8 (n8 : Byte) (s : State) : Result := .next (s.writeR8 .b n8)

/-- LD A,(BC) (R107). -/
def execLdAMemBc (s : State) : Result := .next (s.loadA s.bc)

/-- LD C,n8 (R103). -/
def execLdCN8 (n8 : Byte) (s : State) : Result := .next (s.writeR8 .c n8)

/-- LD (DE),A (R106). -/
def execLdMemDeA (s : State) : Result := .next (s.storeA s.de)

/-- LD D,n8 (R103). -/
def execLdDN8 (n8 : Byte) (s : State) : Result := .next (s.writeR8 .d n8)

/-- LD A,(DE) (R108). -/
def execLdAMemDe (s : State) : Result := .next (s.loadA s.de)

/-- LD E,n8 (R103). -/
def execLdEN8 (n8 : Byte) (s : State) : Result := .next (s.writeR8 .e n8)

/-- LD (HL+),A (R109). -/
def execLdMemHlIncA (s : State) : Result := .next ((s.storeA s.hl).adjustHl 1#16)

/-- LD H,n8 (R103). -/
def execLdHN8 (n8 : Byte) (s : State) : Result := .next (s.writeR8 .h n8)

/-- LD A,(HL+) (R111). -/
def execLdAMemHlInc (s : State) : Result := .next ((s.loadA s.hl).adjustHl 1#16)

/-- LD L,n8 (R103). -/
def execLdLN8 (n8 : Byte) (s : State) : Result := .next (s.writeR8 .l n8)

/-- LD (HL-),A (R110). -/
def execLdMemHlDecA (s : State) : Result := .next ((s.storeA s.hl).adjustHl (-1#16))

/-- LD (HL),n8 (R104). -/
def execLdMemHlN8 (n8 : Byte) (s : State) : Result := .next (s.writeByte s.hl n8)

/-- LD A,(HL-) (R112). -/
def execLdAMemHlDec (s : State) : Result := .next ((s.loadA s.hl).adjustHl (-1#16))

/-- LD A,n8 (R103). -/
def execLdAN8 (n8 : Byte) (s : State) : Result := .next (s.writeR8 .a n8)

/-- LD B,B (R100). -/
def execLdBB (s : State) : Result := .next (s.writeR8 .b (s.readR8 .b))

/-- LD B,C (R100). -/
def execLdBC (s : State) : Result := .next (s.writeR8 .b (s.readR8 .c))

/-- LD B,D (R100). -/
def execLdBD (s : State) : Result := .next (s.writeR8 .b (s.readR8 .d))

/-- LD B,E (R100). -/
def execLdBE (s : State) : Result := .next (s.writeR8 .b (s.readR8 .e))

/-- LD B,H (R100). -/
def execLdBH (s : State) : Result := .next (s.writeR8 .b (s.readR8 .h))

/-- LD B,L (R100). -/
def execLdBL (s : State) : Result := .next (s.writeR8 .b (s.readR8 .l))

/-- LD B,(HL) (R101). -/
def execLdBMemHl (s : State) : Result := .next (s.writeR8 .b (s.readByte s.hl))

/-- LD B,A (R100). -/
def execLdBA (s : State) : Result := .next (s.writeR8 .b (s.readR8 .a))

/-- LD C,B (R100). -/
def execLdCB (s : State) : Result := .next (s.writeR8 .c (s.readR8 .b))

/-- LD C,C (R100). -/
def execLdCC (s : State) : Result := .next (s.writeR8 .c (s.readR8 .c))

/-- LD C,D (R100). -/
def execLdCD (s : State) : Result := .next (s.writeR8 .c (s.readR8 .d))

/-- LD C,E (R100). -/
def execLdCE (s : State) : Result := .next (s.writeR8 .c (s.readR8 .e))

/-- LD C,H (R100). -/
def execLdCH (s : State) : Result := .next (s.writeR8 .c (s.readR8 .h))

/-- LD C,L (R100). -/
def execLdCL (s : State) : Result := .next (s.writeR8 .c (s.readR8 .l))

/-- LD C,(HL) (R101). -/
def execLdCMemHl (s : State) : Result := .next (s.writeR8 .c (s.readByte s.hl))

/-- LD C,A (R100). -/
def execLdCA (s : State) : Result := .next (s.writeR8 .c (s.readR8 .a))

/-- LD D,B (R100). -/
def execLdDB (s : State) : Result := .next (s.writeR8 .d (s.readR8 .b))

/-- LD D,C (R100). -/
def execLdDC (s : State) : Result := .next (s.writeR8 .d (s.readR8 .c))

/-- LD D,D (R100). -/
def execLdDD (s : State) : Result := .next (s.writeR8 .d (s.readR8 .d))

/-- LD D,E (R100). -/
def execLdDE (s : State) : Result := .next (s.writeR8 .d (s.readR8 .e))

/-- LD D,H (R100). -/
def execLdDH (s : State) : Result := .next (s.writeR8 .d (s.readR8 .h))

/-- LD D,L (R100). -/
def execLdDL (s : State) : Result := .next (s.writeR8 .d (s.readR8 .l))

/-- LD D,(HL) (R101). -/
def execLdDMemHl (s : State) : Result := .next (s.writeR8 .d (s.readByte s.hl))

/-- LD D,A (R100). -/
def execLdDA (s : State) : Result := .next (s.writeR8 .d (s.readR8 .a))

/-- LD E,B (R100). -/
def execLdEB (s : State) : Result := .next (s.writeR8 .e (s.readR8 .b))

/-- LD E,C (R100). -/
def execLdEC (s : State) : Result := .next (s.writeR8 .e (s.readR8 .c))

/-- LD E,D (R100). -/
def execLdED (s : State) : Result := .next (s.writeR8 .e (s.readR8 .d))

/-- LD E,E (R100). -/
def execLdEE (s : State) : Result := .next (s.writeR8 .e (s.readR8 .e))

/-- LD E,H (R100). -/
def execLdEH (s : State) : Result := .next (s.writeR8 .e (s.readR8 .h))

/-- LD E,L (R100). -/
def execLdEL (s : State) : Result := .next (s.writeR8 .e (s.readR8 .l))

/-- LD E,(HL) (R101). -/
def execLdEMemHl (s : State) : Result := .next (s.writeR8 .e (s.readByte s.hl))

/-- LD E,A (R100). -/
def execLdEA (s : State) : Result := .next (s.writeR8 .e (s.readR8 .a))

/-- LD H,B (R100). -/
def execLdHB (s : State) : Result := .next (s.writeR8 .h (s.readR8 .b))

/-- LD H,C (R100). -/
def execLdHC (s : State) : Result := .next (s.writeR8 .h (s.readR8 .c))

/-- LD H,D (R100). -/
def execLdHD (s : State) : Result := .next (s.writeR8 .h (s.readR8 .d))

/-- LD H,E (R100). -/
def execLdHE (s : State) : Result := .next (s.writeR8 .h (s.readR8 .e))

/-- LD H,H (R100). -/
def execLdHH (s : State) : Result := .next (s.writeR8 .h (s.readR8 .h))

/-- LD H,L (R100). -/
def execLdHL (s : State) : Result := .next (s.writeR8 .h (s.readR8 .l))

/-- LD H,(HL) (R101). -/
def execLdHMemHl (s : State) : Result := .next (s.writeR8 .h (s.readByte s.hl))

/-- LD H,A (R100). -/
def execLdHA (s : State) : Result := .next (s.writeR8 .h (s.readR8 .a))

/-- LD L,B (R100). -/
def execLdLB (s : State) : Result := .next (s.writeR8 .l (s.readR8 .b))

/-- LD L,C (R100). -/
def execLdLC (s : State) : Result := .next (s.writeR8 .l (s.readR8 .c))

/-- LD L,D (R100). -/
def execLdLD (s : State) : Result := .next (s.writeR8 .l (s.readR8 .d))

/-- LD L,E (R100). -/
def execLdLE (s : State) : Result := .next (s.writeR8 .l (s.readR8 .e))

/-- LD L,H (R100). -/
def execLdLH (s : State) : Result := .next (s.writeR8 .l (s.readR8 .h))

/-- LD L,L (R100). -/
def execLdLL (s : State) : Result := .next (s.writeR8 .l (s.readR8 .l))

/-- LD L,(HL) (R101). -/
def execLdLMemHl (s : State) : Result := .next (s.writeR8 .l (s.readByte s.hl))

/-- LD L,A (R100). -/
def execLdLA (s : State) : Result := .next (s.writeR8 .l (s.readR8 .a))

/-- LD (HL),B (R102). -/
def execLdMemHlB (s : State) : Result := .next (s.writeByte s.hl (s.readR8 .b))

/-- LD (HL),C (R102). -/
def execLdMemHlC (s : State) : Result := .next (s.writeByte s.hl (s.readR8 .c))

/-- LD (HL),D (R102). -/
def execLdMemHlD (s : State) : Result := .next (s.writeByte s.hl (s.readR8 .d))

/-- LD (HL),E (R102). -/
def execLdMemHlE (s : State) : Result := .next (s.writeByte s.hl (s.readR8 .e))

/-- LD (HL),H (R102). -/
def execLdMemHlH (s : State) : Result := .next (s.writeByte s.hl (s.readR8 .h))

/-- LD (HL),L (R102). -/
def execLdMemHlL (s : State) : Result := .next (s.writeByte s.hl (s.readR8 .l))

/-- LD (HL),A (R102). -/
def execLdMemHlA (s : State) : Result := .next (s.writeByte s.hl (s.readR8 .a))

/-- LD A,B (R100). -/
def execLdAB (s : State) : Result := .next (s.writeR8 .a (s.readR8 .b))

/-- LD A,C (R100). -/
def execLdAC (s : State) : Result := .next (s.writeR8 .a (s.readR8 .c))

/-- LD A,D (R100). -/
def execLdAD (s : State) : Result := .next (s.writeR8 .a (s.readR8 .d))

/-- LD A,E (R100). -/
def execLdAE (s : State) : Result := .next (s.writeR8 .a (s.readR8 .e))

/-- LD A,H (R100). -/
def execLdAH (s : State) : Result := .next (s.writeR8 .a (s.readR8 .h))

/-- LD A,L (R100). -/
def execLdAL (s : State) : Result := .next (s.writeR8 .a (s.readR8 .l))

/-- LD A,(HL) (R101). -/
def execLdAMemHl (s : State) : Result := .next (s.writeR8 .a (s.readByte s.hl))

/-- LD A,A (R100). -/
def execLdAA (s : State) : Result := .next (s.writeR8 .a (s.readR8 .a))

/-- LDH (a8),A (R115). -/
def execLdhMemA8A (a8 : Byte) (s : State) : Result := .next (s.storeA (highPage a8))

/-- LD (C),A (R117). -/
def execLdMemCA (s : State) : Result := .next (s.storeA (highPage s.c))

/-- LD (a16),A (R113). -/
def execLdMemA16A (a16 : Word) (s : State) : Result := .next (s.storeA a16)

/-- LDH A,(a8) (R116). -/
def execLdhAMemA8 (a8 : Byte) (s : State) : Result := .next (s.loadA (highPage a8))

/-- LD A,(C) (R118). -/
def execLdAMemC (s : State) : Result := .next (s.loadA (highPage s.c))

/-- LD A,(a16) (R114). -/
def execLdAMemA16 (a16 : Word) (s : State) : Result := .next (s.loadA a16)

end Sys2Proof.Machine
end

