-- ==== Sys2Proof/Machine/Rotate.lean ====
section
/-! DEFINITION. Rotates, shifts and SWAP (43_rotate_shift.md R180 to R200). One meaning per
instruction; PC is already past the instruction's bytes (00_scope.md section 6, log entry 18). -/

namespace Sys2Proof.Machine

/-- An accumulator rotate (R180 to R183): "always clear Zero/Subtract/Half-carry". -/
def State.rotateA (s : State) (op : RotOp) : State :=
  State.setFlags { s with a := (rotate op s.a s.flagC).1 } false false false (rotate op s.a s.flagC).2

/-- A 0xCB rotate or shift (R184 to R200): Z from the result, N and H cleared. -/
def State.rotateOperand (s : State) (op : RotOp) (o : Operand8) : State :=
  (s.writeOperand o (rotate op (s.readOperand o) s.flagC).1).setFlags
    ((rotate op (s.readOperand o) s.flagC).1 == 0#8) false false
    (rotate op (s.readOperand o) s.flagC).2

/-- RLCA (R180). -/
def execRlca (s : State) : Result := .next (s.rotateA .rlc)

/-- RRCA (R181). -/
def execRrca (s : State) : Result := .next (s.rotateA .rrc)

/-- RLA (R182). -/
def execRla (s : State) : Result := .next (s.rotateA .rl)

/-- RRA (R183). -/
def execRra (s : State) : Result := .next (s.rotateA .rr)

/-- RLC B (R185). -/
def execRlcB (s : State) : Result := .next (s.rotateOperand .rlc (.reg .b))

/-- RLC C (R185). -/
def execRlcC (s : State) : Result := .next (s.rotateOperand .rlc (.reg .c))

/-- RLC D (R185). -/
def execRlcD (s : State) : Result := .next (s.rotateOperand .rlc (.reg .d))

/-- RLC E (R185). -/
def execRlcE (s : State) : Result := .next (s.rotateOperand .rlc (.reg .e))

/-- RLC H (R185). -/
def execRlcH (s : State) : Result := .next (s.rotateOperand .rlc (.reg .h))

/-- RLC L (R185). -/
def execRlcL (s : State) : Result := .next (s.rotateOperand .rlc (.reg .l))

/-- RLC (HL) (R186). -/
def execRlcMemHl (s : State) : Result := .next (s.rotateOperand .rlc .memHl)

/-- RLC A (R185). -/
def execRlcA (s : State) : Result := .next (s.rotateOperand .rlc (.reg .a))

/-- RRC B (R187). -/
def execRrcB (s : State) : Result := .next (s.rotateOperand .rrc (.reg .b))

/-- RRC C (R187). -/
def execRrcC (s : State) : Result := .next (s.rotateOperand .rrc (.reg .c))

/-- RRC D (R187). -/
def execRrcD (s : State) : Result := .next (s.rotateOperand .rrc (.reg .d))

/-- RRC E (R187). -/
def execRrcE (s : State) : Result := .next (s.rotateOperand .rrc (.reg .e))

/-- RRC H (R187). -/
def execRrcH (s : State) : Result := .next (s.rotateOperand .rrc (.reg .h))

/-- RRC L (R187). -/
def execRrcL (s : State) : Result := .next (s.rotateOperand .rrc (.reg .l))

/-- RRC (HL) (R188). -/
def execRrcMemHl (s : State) : Result := .next (s.rotateOperand .rrc .memHl)

/-- RRC A (R187). -/
def execRrcA (s : State) : Result := .next (s.rotateOperand .rrc (.reg .a))

/-- RL B (R189). -/
def execRlB (s : State) : Result := .next (s.rotateOperand .rl (.reg .b))

/-- RL C (R189). -/
def execRlC (s : State) : Result := .next (s.rotateOperand .rl (.reg .c))

/-- RL D (R189). -/
def execRlD (s : State) : Result := .next (s.rotateOperand .rl (.reg .d))

/-- RL E (R189). -/
def execRlE (s : State) : Result := .next (s.rotateOperand .rl (.reg .e))

/-- RL H (R189). -/
def execRlH (s : State) : Result := .next (s.rotateOperand .rl (.reg .h))

/-- RL L (R189). -/
def execRlL (s : State) : Result := .next (s.rotateOperand .rl (.reg .l))

/-- RL (HL) (R190). -/
def execRlMemHl (s : State) : Result := .next (s.rotateOperand .rl .memHl)

/-- RL A (R189). -/
def execRlA (s : State) : Result := .next (s.rotateOperand .rl (.reg .a))

/-- RR B (R191). -/
def execRrB (s : State) : Result := .next (s.rotateOperand .rr (.reg .b))

/-- RR C (R191). -/
def execRrC (s : State) : Result := .next (s.rotateOperand .rr (.reg .c))

/-- RR D (R191). -/
def execRrD (s : State) : Result := .next (s.rotateOperand .rr (.reg .d))

/-- RR E (R191). -/
def execRrE (s : State) : Result := .next (s.rotateOperand .rr (.reg .e))

/-- RR H (R191). -/
def execRrH (s : State) : Result := .next (s.rotateOperand .rr (.reg .h))

/-- RR L (R191). -/
def execRrL (s : State) : Result := .next (s.rotateOperand .rr (.reg .l))

/-- RR (HL) (R192). -/
def execRrMemHl (s : State) : Result := .next (s.rotateOperand .rr .memHl)

/-- RR A (R191). -/
def execRrA (s : State) : Result := .next (s.rotateOperand .rr (.reg .a))

/-- SLA B (R193). -/
def execSlaB (s : State) : Result := .next (s.rotateOperand .sla (.reg .b))

/-- SLA C (R193). -/
def execSlaC (s : State) : Result := .next (s.rotateOperand .sla (.reg .c))

/-- SLA D (R193). -/
def execSlaD (s : State) : Result := .next (s.rotateOperand .sla (.reg .d))

/-- SLA E (R193). -/
def execSlaE (s : State) : Result := .next (s.rotateOperand .sla (.reg .e))

/-- SLA H (R193). -/
def execSlaH (s : State) : Result := .next (s.rotateOperand .sla (.reg .h))

/-- SLA L (R193). -/
def execSlaL (s : State) : Result := .next (s.rotateOperand .sla (.reg .l))

/-- SLA (HL) (R194). -/
def execSlaMemHl (s : State) : Result := .next (s.rotateOperand .sla .memHl)

/-- SLA A (R193). -/
def execSlaA (s : State) : Result := .next (s.rotateOperand .sla (.reg .a))

/-- SRA B (R195). -/
def execSraB (s : State) : Result := .next (s.rotateOperand .sra (.reg .b))

/-- SRA C (R195). -/
def execSraC (s : State) : Result := .next (s.rotateOperand .sra (.reg .c))

/-- SRA D (R195). -/
def execSraD (s : State) : Result := .next (s.rotateOperand .sra (.reg .d))

/-- SRA E (R195). -/
def execSraE (s : State) : Result := .next (s.rotateOperand .sra (.reg .e))

/-- SRA H (R195). -/
def execSraH (s : State) : Result := .next (s.rotateOperand .sra (.reg .h))

/-- SRA L (R195). -/
def execSraL (s : State) : Result := .next (s.rotateOperand .sra (.reg .l))

/-- SRA (HL) (R196). -/
def execSraMemHl (s : State) : Result := .next (s.rotateOperand .sra .memHl)

/-- SRA A (R195). -/
def execSraA (s : State) : Result := .next (s.rotateOperand .sra (.reg .a))

/-- SWAP B (R197). -/
def execSwapB (s : State) : Result := .next (s.rotateOperand .swap (.reg .b))

/-- SWAP C (R197). -/
def execSwapC (s : State) : Result := .next (s.rotateOperand .swap (.reg .c))

/-- SWAP D (R197). -/
def execSwapD (s : State) : Result := .next (s.rotateOperand .swap (.reg .d))

/-- SWAP E (R197). -/
def execSwapE (s : State) : Result := .next (s.rotateOperand .swap (.reg .e))

/-- SWAP H (R197). -/
def execSwapH (s : State) : Result := .next (s.rotateOperand .swap (.reg .h))

/-- SWAP L (R197). -/
def execSwapL (s : State) : Result := .next (s.rotateOperand .swap (.reg .l))

/-- SWAP (HL) (R198). -/
def execSwapMemHl (s : State) : Result := .next (s.rotateOperand .swap .memHl)

/-- SWAP A (R197). -/
def execSwapA (s : State) : Result := .next (s.rotateOperand .swap (.reg .a))

/-- SRL B (R199). -/
def execSrlB (s : State) : Result := .next (s.rotateOperand .srl (.reg .b))

/-- SRL C (R199). -/
def execSrlC (s : State) : Result := .next (s.rotateOperand .srl (.reg .c))

/-- SRL D (R199). -/
def execSrlD (s : State) : Result := .next (s.rotateOperand .srl (.reg .d))

/-- SRL E (R199). -/
def execSrlE (s : State) : Result := .next (s.rotateOperand .srl (.reg .e))

/-- SRL H (R199). -/
def execSrlH (s : State) : Result := .next (s.rotateOperand .srl (.reg .h))

/-- SRL L (R199). -/
def execSrlL (s : State) : Result := .next (s.rotateOperand .srl (.reg .l))

/-- SRL (HL) (R200). -/
def execSrlMemHl (s : State) : Result := .next (s.rotateOperand .srl .memHl)

/-- SRL A (R199). -/
def execSrlA (s : State) : Result := .next (s.rotateOperand .srl (.reg .a))

end Sys2Proof.Machine
end

