-- ==== Sys2Proof/Machine/Prefix.lean ====
section
/-! DEFINITION. The prefix byte 0xCB as the table's row PREFIX CB (48_system.md R275): it fetches a
second byte and executes what that byte selects. `decode` gives this row only for a prefix with no
byte after it; a step decodes both bytes at once (log entry 19). -/

namespace Sys2Proof.Machine

/-- ROT[y] (30_encoding.md R77). -/
def rotOfCode (y : BitVec 3) : RotOp :=
  match y.toNat with
  | 0 => .rlc
  | 1 => .rrc
  | 2 => .rl
  | 3 => .rr
  | 4 => .sla
  | 5 => .sra
  | 6 => .swap
  | _ => .srl

/-- `execute CB[op2]`, by the fields x, y, z of the second byte (30_encoding.md R67, R77). -/
def State.executeCb (s : State) (op2 : Byte) : State :=
  match (op2.extractLsb' 6 2).toNat with
  | 0 => s.rotateOperand (rotOfCode (op2.extractLsb' 3 3)) (operandOfCode (op2.extractLsb' 0 3))
  | 1 => s.testBit (op2.extractLsb' 3 3).toNat (operandOfCode (op2.extractLsb' 0 3))
  | 2 => s.resBit (op2.extractLsb' 3 3).toNat (operandOfCode (op2.extractLsb' 0 3))
  | _ => s.setBit (op2.extractLsb' 3 3).toNat (operandOfCode (op2.extractLsb' 0 3))

/-- PREFIX CB (R275): `op2 <- Fetch8(); execute CB[op2]`. -/
def execPrefixCb (s : State) : Result := .next (s.fetch8.2.executeCb s.fetch8.1)

end Sys2Proof.Machine
end

