-- ==== Sys2Proof/Machine/Stack.lean ====
section
/-! DEFINITION. Stack, 16-bit loads and SP-relative arithmetic (47_stack_sp.md R250 to R258). One meaning per
instruction; PC is already past the instruction's bytes (00_scope.md section 6, log entry 18). -/

namespace Sys2Proof.Machine

/-- The flags of `SPAdd` (R256): Z and N cleared (log entry 9), H and C from the XOR. -/
def State.setSpFlags (s : State) (out : WideOut) : State := s.setFlags false false out.h out.c

/-- LD HL,SP+e8 for a value `hBit` of SPE_H_BIT (R257). -/
def State.loadHlFromSp (s : State) (hBit : Nat) (e8 : Byte) : State :=
  (s.setHl (spAdd hBit s.sp e8).r).setSpFlags (spAdd hBit s.sp e8)

/-- ADD SP,e8 for a value `hBit` of SPE_H_BIT (R258). -/
def State.addToSp (s : State) (hBit : Nat) (e8 : Byte) : State :=
  State.setSpFlags { s with sp := (spAdd hBit s.sp e8).r } (spAdd hBit s.sp e8)

/-- POP into an rp2 operand (R251). -/
def State.popInto (s : State) (p : Rp2) : State := s.pop16.2.writeRp2 p s.pop16.1

/-- POP AF (R252): the popped word is masked with 0xFFF0. -/
def State.popAf (s : State) : State := s.pop16.2.setAf (s.pop16.1 &&& 0xFFF0#16)

/-- LD BC,n16 (R253). -/
def execLdBcN16 (n16 : Word) (s : State) : Result := .next (s.writeRp .bc n16)

/-- LD (a16),SP (R254). -/
def execLdMemA16Sp (a16 : Word) (s : State) : Result := .next (s.writeWord a16 s.sp)

/-- LD DE,n16 (R253). -/
def execLdDeN16 (n16 : Word) (s : State) : Result := .next (s.writeRp .de n16)

/-- LD HL,n16 (R253). -/
def execLdHlN16 (n16 : Word) (s : State) : Result := .next (s.writeRp .hl n16)

/-- LD SP,n16 (R253). -/
def execLdSpN16 (n16 : Word) (s : State) : Result := .next (s.writeRp .sp n16)

/-- POP BC (R251). -/
def execPopBc (s : State) : Result := .next (s.popInto .bc)

/-- PUSH BC (R250). -/
def execPushBc (s : State) : Result := .next (s.push16 (s.readRp2 .bc))

/-- POP DE (R251). -/
def execPopDe (s : State) : Result := .next (s.popInto .de)

/-- PUSH DE (R250). -/
def execPushDe (s : State) : Result := .next (s.push16 (s.readRp2 .de))

/-- POP HL (R251). -/
def execPopHl (s : State) : Result := .next (s.popInto .hl)

/-- PUSH HL (R250). -/
def execPushHl (s : State) : Result := .next (s.push16 (s.readRp2 .hl))

/-- ADD SP,e8 (R258). -/
def execAddSpE8 (e8 : Byte) (s : State) : Result := .next (s.addToSp params.speHBit e8)

/-- POP AF (R252). -/
def execPopAf (s : State) : Result := .next s.popAf

/-- PUSH AF (R250). -/
def execPushAf (s : State) : Result := .next (s.push16 (s.readRp2 .af))

/-- LD HL,SP+e8 (R257). -/
def execLdHlSpE8 (e8 : Byte) (s : State) : Result := .next (s.loadHlFromSp params.speHBit e8)

/-- LD SP,HL (R255). -/
def execLdSpHl (s : State) : Result := .next { s with sp := s.hl }

end Sys2Proof.Machine
end

