-- ==== Sys2Proof/Machine/System.lean ====
section
/-! DEFINITION. System, power and control instructions (48_system.md R270 to R276). One meaning per
instruction; PC is already past the instruction's bytes (00_scope.md section 6, log entry 18). -/

namespace Sys2Proof.Machine

/-- STOP for a value `extra` of STOP_EXTRA_ADVANCE (R272). -/
def State.stopWith (s : State) (extra : Nat) : State :=
  { s with stopped := true, pc := s.pc + BitVec.ofNat 16 extra }

/-- NOP (R270). -/
def execNop (s : State) : Result := .next s

/-- STOP (R272). -/
def execStop (s : State) : Result := .next (s.stopWith params.stopExtraAdvance)

/-- HALT (R271). -/
def execHalt (s : State) : Result := .next { s with halted := true }

/-- Illegal opcode 0xD3 (R276). -/
def execIllegalD3 (s : State) : Result := .next (s.raiseFatal 0xD3#8)

/-- Illegal opcode 0xDB (R276). -/
def execIllegalDB (s : State) : Result := .next (s.raiseFatal 0xDB#8)

/-- Illegal opcode 0xDD (R276). -/
def execIllegalDD (s : State) : Result := .next (s.raiseFatal 0xDD#8)

/-- Illegal opcode 0xE3 (R276). -/
def execIllegalE3 (s : State) : Result := .next (s.raiseFatal 0xE3#8)

/-- Illegal opcode 0xE4 (R276). -/
def execIllegalE4 (s : State) : Result := .next (s.raiseFatal 0xE4#8)

/-- Illegal opcode 0xEB (R276). -/
def execIllegalEB (s : State) : Result := .next (s.raiseFatal 0xEB#8)

/-- Illegal opcode 0xEC (R276). -/
def execIllegalEC (s : State) : Result := .next (s.raiseFatal 0xEC#8)

/-- Illegal opcode 0xED (R276). -/
def execIllegalED (s : State) : Result := .next (s.raiseFatal 0xED#8)

/-- DI (R273). -/
def execDi (s : State) : Result := .next { s with ime := false }

/-- Illegal opcode 0xF4 (R276). -/
def execIllegalF4 (s : State) : Result := .next (s.raiseFatal 0xF4#8)

/-- EI (R274). -/
def execEi (s : State) : Result := .next { s with ime := true }

/-- Illegal opcode 0xFC (R276). -/
def execIllegalFC (s : State) : Result := .next (s.raiseFatal 0xFC#8)

/-- Illegal opcode 0xFD (R276). -/
def execIllegalFD (s : State) : Result := .next (s.raiseFatal 0xFD#8)

end Sys2Proof.Machine
end

