-- ==== Sys2Proof/Machine/HostOps.lean ====
section
/-! DEFINITION. What the host and the collaborators do to the core between steps: load the ROM image
(20_memory.md R47), power on (70_reset_and_hazards.md R330, R331), write a byte (20_memory.md R51). -/

namespace Sys2Proof.Machine

/-- Stores the bytes of an image at consecutive ROM addresses from `k`; bytes at 0x8000 and above are
ignored (R47). -/
def loadRomFrom (k : Nat) : List Byte → Memory → Memory
  | [], m => m
  | v :: rest, m => loadRomFrom (k + 1) rest (if k < 0x8000 then m.set k v else m)

/-- `load_rom(bytes)` (R47): positions the image does not reach keep their value. -/
def State.loadRom (s : State) (image : List Byte) : State :=
  { s with mem := loadRomFrom 0 image s.mem }

/-- Initialisation, then `load_rom(ROM_IMAGE)` (R330, R331). -/
def powerOn (image : List Byte) : State := State.reset.loadRom image

/-- A byte written between two steps by the host or a collaborator: `write_byte` (R51). -/
def State.hostWrite (s : State) (a : Word) (v : Byte) : State := s.writeByte a v

/-- A collaborator asserts its request bit in IF "via a normal MMU byte write" (60_exceptions.md R301). -/
def State.assertRequest (s : State) (k : InterruptSource) : State :=
  s.hostWrite ifAddress (s.readByte ifAddress ||| (1#8 <<< sourceBit k))

end Sys2Proof.Machine
end

