-- ==== Sys2Proof/Machine/RunLoop.lean ====
section
/-! DEFINITION. The host's run loop (70_reset_and_hazards.md R334, R335). -/

namespace Sys2Proof.Machine

/-- The core with what the host keeps beside it: `running` (10_state.md R19) and the fatal record it
reports (R334). -/
structure RunState where
  core : State
  running : Bool
  report : Option FatalRecord
  deriving DecidableEq, Repr

/-- The host's half of one turn of `run()`: a fatal record clears `running` and is reported (R334). -/
def RunState.observe (r : RunState) (t : State) : RunState :=
  match t.fatal with
  | none => { r with core := t }
  | some rec => { core := t, running := false, report := some rec }

/-- One turn of `run()` (R334): nothing once `running` is 0. -/
def RunState.iterate (r : RunState) : Host.Outcome RunState Fault Refusal :=
  if r.running then
    match step r.core with
    | .next t => .next (r.observe t)
    | .fault e => .fault e
    | .refused e => .refused e
  else .next r

/-- At most `n` turns of `run()`. -/
def RunState.run : Nat → RunState → Host.Outcome RunState Fault Refusal
  | 0, r => .next r
  | n + 1, r =>
    match r.iterate with
    | .next r' => RunState.run n r'
    | .fault e => .fault e
    | .refused e => .refused e

end Sys2Proof.Machine
end

