-- ==== Sys2Proof/Machine/Variant.lean ====
section
/-! DEFINITION. The machine with the implementation parameters as arguments: "a model takes the
parameter as an argument" (00_scope.md R2 to R5). `exec`, `step` and `powerOn` are this machine at the
spec's own values. -/

namespace Sys2Proof.Machine

/-- `exec` for any values of STOP_EXTRA_ADVANCE and SPE_H_BIT (48_system.md R272; 47_stack_sp.md R256
to R258): no other instruction depends on a parameter. -/
def execWith (p : Config.Params) (i : Instr) (s : State) : Result :=
  match i with
  | .stop => .next (s.stopWith p.stopExtraAdvance)
  | .ldHlSpE8 e8 => .next (s.loadHlFromSp p.speHBit e8)
  | .addSpE8 e8 => .next (s.addToSp p.speHBit e8)
  | other => exec other s

/-- `step` for any values of the two parameters (30_encoding.md R60). -/
def stepWith (p : Config.Params) (s : State) : Result := cycle (execWith p) s

/-- The storage arrays below address `n` at power-on: MEM_INIT (00_scope.md R4) wherever a byte of an
array other than ROM stands, the zero fill of 10_state.md R23 in ROM. -/
def storageFrom (init : Nat → Byte) : Nat → Memory
  | 0 => []
  | n + 1 =>
    if 0x8000 ≤ n && ownsStorage n then (storageFrom init n).set n (init n)
    else storageFrom init n

/-- All the storage arrays at power-on. Irreducible, so that no proof counts through the address space:
`Memory.get_powerOnStorage` says what it holds. -/
@[irreducible] def powerOnStorage (init : Nat → Byte) : Memory := storageFrom init 0x10000

/-- Power-on for any MEM_INIT (00_scope.md R4, 70_reset_and_hazards.md R330), then `load_rom` (R331):
what `init` says of ROM, ECHO and UNUSABLE addresses is not read, since MEM_INIT is not defined
there. -/
def powerOnWith (init : Nat → Byte) (image : List Byte) : State :=
  State.loadRom { State.reset with mem := powerOnStorage init } image

end Sys2Proof.Machine
end

