-- ==== Sys2Proof/Safety.lean ====
section
/-! DEFINITION. What counts as a safe state and a safe run, in the terms the statements use. -/

namespace Sys2Proof.Machine

/-- The invariant of the model: memory keeps its canonical form, and "F[3:0] = 0 in every reachable
state" (10_state.md R13). -/
abbrev State.Inv (s : State) : Prop := s.mem.wf ∧ s.f.extractLsb' 0 4 = 0#4

/-- The core fetches in its next step: not fatal, not stopped, not halted (30_encoding.md R60). -/
abbrev State.Fetching (s : State) : Prop := s.fatal = none ∧ s.stopped = false ∧ s.halted = false

/-- No step changes the state any more: fatal or stopped (60_exceptions.md R318). -/
abbrev State.Terminal (s : State) : Prop := s.fatal ≠ none ∨ s.stopped = true

/-- The states of a run: power-on with any ROM image, then steps, with host or collaborator writes
between them (20_memory.md R51). -/
inductive Reachable : State → Prop where
  | powerOn (image : List Byte) : Reachable (Machine.powerOn image)
  | step {s t : State} : Reachable s → Machine.step s = .next t → Reachable t
  | hostWrite {s : State} (a : Word) (v : Byte) : Reachable s → Reachable (s.hostWrite a v)

/-- A safe state: the invariant holds and no unimplemented opcode has been fetched. -/
abbrev State.Safe (s : State) : Prop := s.Inv ∧ s.fatal = none

end Sys2Proof.Machine
end

