-- ==== Sys2Proof/Certificates/Slice0/Obligations.lean ====
section
/-! DEFINITION. The statements for the provers, and the few terms they share. -/

open Sys2Proof Sys2Proof.Machine

/-! ### Terms the statements share -/

/-- The r8 code of a register (30_encoding.md R68). -/
def Sys2Proof.Claims.r8Code : R8 → BitVec 3
  | .b => 0#3
  | .c => 1#3
  | .d => 2#3
  | .e => 3#3
  | .h => 4#3
  | .l => 5#3
  | .a => 7#3

/-- The rp code (30_encoding.md R69). -/
def Sys2Proof.Claims.rpCode : Rp → BitVec 2
  | .bc => 0#2
  | .de => 1#2
  | .hl => 2#2
  | .sp => 3#2

/-- The rp2 code (30_encoding.md R70). -/
def Sys2Proof.Claims.rp2Code : Rp2 → BitVec 2
  | .bc => 0#2
  | .de => 1#2
  | .hl => 2#2
  | .af => 3#2

/-- The cc code (30_encoding.md R71). -/
def Sys2Proof.Claims.ccCode : Cond → BitVec 2
  | .nz => 0#2
  | .z => 1#2
  | .nc => 2#2
  | .c => 3#2

/-- The ALU[y] code (30_encoding.md R75). -/
def Sys2Proof.Claims.aluCode : AluOp → BitVec 3
  | .add => 0#3
  | .adc => 1#3
  | .sub => 2#3
  | .sbc => 3#3
  | .and => 4#3
  | .xor => 5#3
  | .or => 6#3
  | .cp => 7#3

/-- The ROT[y] code (30_encoding.md R77). -/
def Sys2Proof.Claims.rotCode : RotOp → BitVec 3
  | .rlc => 0#3
  | .rrc => 1#3
  | .rl => 2#3
  | .rr => 3#3
  | .sla => 4#3
  | .sra => 5#3
  | .swap => 6#3
  | .srl => 7#3

/-- An opcode byte from its fields x, y, z (30_encoding.md R67). -/
def Sys2Proof.Claims.xyz (x : BitVec 2) (y z : BitVec 3) : Byte := x ++ y ++ z

/-- An opcode byte from its fields x, p, q, z (30_encoding.md R67). -/
def Sys2Proof.Claims.xpqz (x p : BitVec 2) (q : BitVec 1) (z : BitVec 3) : Byte := x ++ p ++ q ++ z

/-- These bytes, whatever follows them, decode to the instruction. -/
def Sys2Proof.Claims.Decodes (bytes : List Byte) (i : Instr) : Prop :=
  ∀ rest : List Byte, decode (bytes ++ rest) = .ok (i, rest)

/-- IME, halted, stopped and fatal are unchanged. -/
def Sys2Proof.Claims.StatusKept (s t : State) : Prop :=
  t.ime = s.ime ∧ t.halted = s.halted ∧ t.stopped = s.stopped ∧ t.fatal = s.fatal

/-- SP, PC and the status are unchanged. -/
def Sys2Proof.Claims.ControlKept (s t : State) : Prop :=
  t.sp = s.sp ∧ t.pc = s.pc ∧ Claims.StatusKept s t

/-- The seven 8-bit registers other than F are unchanged. -/
def Sys2Proof.Claims.RegsKept (s t : State) : Prop := ∀ x, t.readR8 x = s.readR8 x

/-- Register `r` holds `v`, the other six are unchanged. -/
def Sys2Proof.Claims.RegSet (s t : State) (r : R8) (v : Byte) : Prop :=
  ∀ x, t.readR8 x = if x = r then v else s.readR8 x

/-- Pair (or SP) `p` holds `v`; the other pairs, SP and A are unchanged. -/
def Sys2Proof.Claims.PairSet (s t : State) (p : Rp) (v : Word) : Prop :=
  (∀ q, t.readRp q = if q = p then v else s.readRp q) ∧ t.a = s.a

/-- The four flags are as given, and bits 3..0 of F are unchanged. -/
def Sys2Proof.Claims.FlagsAre (s t : State) (z n h c : Bool) : Prop :=
  t.flagZ = z ∧ t.flagN = n ∧ t.flagH = h ∧ t.flagC = c ∧
    t.f.extractLsb' 0 4 = s.f.extractLsb' 0 4

/-- Every byte of memory reads as before. -/
def Sys2Proof.Claims.MemKept (s t : State) : Prop := ∀ a, t.readByte a = s.readByte a

/-- What address `a` reads as after a byte `v` is stored at `addr`, where it read as `old`: `v` if the
region of `addr` stores bytes and `a` reaches the same byte, else `old`. -/
def Sys2Proof.Claims.afterStore (addr a : Word) (v old : Byte) : Byte :=
  if writable addr ∧ storageAddress a = storageAddress addr then v else old

/-- In every state whose memory is canonical, the byte stored at `addr` is `v` and every other byte
reads as before. -/
def Sys2Proof.Claims.StoresByte (s t : State) (addr : Word) (v : Byte) : Prop :=
  s.mem.wf → ∀ a, t.readByte a = Claims.afterStore addr a v (s.readByte a)

/-- What address `a` reads as after the word `v` is stored at `addr`, low byte first. -/
def Sys2Proof.Claims.afterWord (s : State) (addr a : Word) (v : Word) : Byte :=
  Claims.afterStore (addr + 1#16) a (v.extractLsb' 8 8)
    (Claims.afterStore addr a (v.extractLsb' 0 8) (s.readByte a))

/-- In every state whose memory is canonical, the two bytes stored at `addr` and `addr + 1` are the low
and the high byte of `v`, and every other byte reads as before. -/
def Sys2Proof.Claims.StoresWord (s t : State) (addr : Word) (v : Word) : Prop :=
  s.mem.wf → ∀ a, t.readByte a = Claims.afterWord s addr a v

/-! ### Encoding -/

/-- Words written out from the spec's encodings decode to the instructions they stand for
(95_test_vectors.md E8, M1, J1, S22, B8, Y13). -/
def Obligations.SpecWordsDecode : Prop :=
  decode [0x3E#8, 0x05#8, 0x3C#8, 0x00#8] = .ok (.ldAN8 0x05#8, [0x3C#8, 0x00#8]) ∧
  decode [0xEA#8, 0x00#8, 0xE0#8] = .ok (.ldMemA16A 0xE000#16, []) ∧
  decode [0x18#8, 0xFE#8] = .ok (.jrE8 0xFE#8, []) ∧
  decode [0xCB#8, 0x37#8] = .ok (.swapA, []) ∧
  decode [0xCB#8, 0xCB#8] = .ok (.set1E, []) ∧
  decode [0xD3#8] = .ok (.illegalD3, [])

/-- Decoding the encoding of any whole instruction, with any bytes after it, gives the instruction back
with every operand, and leaves exactly those bytes. -/
def Obligations.DecodeOfEncodeGivesInstruction : Prop :=
  ∀ (i : Instr), i.wellFormed = true → ∀ rest : List Byte,
    decode (encode i ++ rest) = .ok (i, rest)

/-- Every byte string that decodes is the encoding of the instruction it decodes to, followed by the
bytes left over: each word has one meaning and no bit of it is dropped. -/
def Obligations.EncodeOfDecodeGivesBytes : Prop :=
  ∀ (bytes rest : List Byte) (i : Instr), decode bytes = .ok (i, rest) → bytes = encode i ++ rest

/-- The first byte alone tells an instruction's length, 1, 2 or 3 bytes, and that many bytes always
decode (R72); after 0xCB the length is 2 (R62). -/
def Obligations.FirstByteTellsLength : Prop :=
  ∀ op : Byte, ∃ n : Nat, 1 ≤ n ∧ n ≤ 3 ∧ (op = 0xCB#8 → n = 2) ∧
    ∀ operands : List Byte, operands.length + 1 = n →
      ∃ i : Instr, encode i = op :: operands ∧ Claims.Decodes (op :: operands) i

/-- The eleven opcodes of R78, and no others, decode to the illegal instructions, whose meaning is to
raise the fatal condition with that opcode and with the address it was fetched from, PC - 1, and to
change nothing else. That they do so is the spec's decision D14, D15 (log entries 12, 13). -/
def Obligations.IllegalOpcodesRaiseFatal : Prop :=
  (∀ p ∈ [(0xD3#8, Instr.illegalD3), (0xDB#8, .illegalDB), (0xDD#8, .illegalDD),
      (0xE3#8, .illegalE3), (0xE4#8, .illegalE4), (0xEB#8, .illegalEB), (0xEC#8, .illegalEC),
      (0xED#8, .illegalED), (0xF4#8, .illegalF4), (0xFC#8, .illegalFC), (0xFD#8, .illegalFD)],
    Claims.Decodes [p.1] p.2 ∧
    ∀ s : State, exec p.2 s =
      .next { s with fatal := some { opcode := p.1, addr := s.pc - 1#16 } }) ∧
  (∀ (op : Byte) (operands rest : List Byte) (i : Instr) (s t : State),
    decode (op :: operands) = .ok (i, rest) → exec i s = .next t → t.fatal ≠ s.fatal →
    op ∈ [0xD3#8, 0xDB#8, 0xDD#8, 0xE3#8, 0xE4#8, 0xEB#8, 0xEC#8, 0xED#8, 0xF4#8, 0xFC#8, 0xFD#8])

/-! ### The step -/

/-- When the bytes at PC decode to `i`, a step of a core that fetches is `exec i` with PC past the
instruction's bytes, followed by the interrupt check, unless the instruction raised the fatal
condition (30_encoding.md R60). -/
def Obligations.StepRunsDecodedInstruction : Prop :=
  ∀ (s : State) (i : Instr) (rest : List Byte), s.Fetching →
    decode [s.readByte s.pc, s.readByte (s.pc + 1#16), s.readByte (s.pc + 2#16)] = .ok (i, rest) →
    step s = mapNext (fun t => if t.fatal.isSome then t else t.interruptCheck)
      (exec i { s with pc := s.pc + BitVec.ofNat 16 (3 - rest.length) })

/-- Nothing stops the machine: every instruction answers a next state in every state, and so does every
step. No memory access faults (60_exceptions.md R313); that the fatal condition, which R313 leaves
aside and which ends execution, is taken as a next state too, and that no step answers a fault, is the
model's choice (log entries 13, 28). -/
def Obligations.EveryInstructionAndStepGoesOn : Prop :=
  (∀ (i : Instr) (s : State), ∃ t, exec i s = .next t) ∧ ∀ s : State, ∃ t, step s = .next t

/-- A halted step performs only the interrupt check, and with IF = 0 it changes nothing
(30_encoding.md R60; the spec's decision D6, log entry 7). -/
def Obligations.HaltedStepOnlyChecks : Prop :=
  ∀ s : State, s.fatal = none → s.stopped = false → s.halted = true →
    step s = .next s.interruptCheck ∧ (s.readByte 0xFF0F#16 = 0#8 → step s = .next s)

/-- A stopped core and a core with a fatal record never change again, however many steps are taken
(10_state.md R18, R20; the spec's decisions D7, D15, log entries 7, 13). -/
def Obligations.TerminalCoreNeverChanges : Prop :=
  ∀ (s : State), s.Terminal → ∀ n : Nat, Host.Core.run core n s = .next s

/-- Fetching an illegal opcode: the step records it with its address, leaves PC one past it, changes
nothing else and makes no interrupt check, whatever is pending (48_system.md R276; the spec's
decision D15, log entry 13). -/
def Obligations.FatalStepRecordsAndSkipsCheck : Prop :=
  ∀ s : State, s.Fetching →
    s.readByte s.pc ∈ [0xD3#8, 0xDB#8, 0xDD#8, 0xE3#8, 0xE4#8, 0xEB#8, 0xEC#8, 0xED#8, 0xF4#8,
      0xFC#8, 0xFD#8] →
    step s = .next { s with
      pc := s.pc + 1#16, fatal := some { opcode := s.readByte s.pc, addr := s.pc } }

/-- Each status bit is changed only by its own instructions: IME by EI, DI and RETI, `halted` by HALT,
`stopped` by STOP (10_state.md R16 to R18; the interrupt check is no instruction). -/
def Obligations.StatusChangedOnlyByItsInstructions : Prop :=
  ∀ (i : Instr) (s t : State), exec i s = .next t →
    (t.ime ≠ s.ime → i = .ei ∨ i = .di ∨ i = .reti) ∧
    (t.halted ≠ s.halted → i = .halt) ∧
    (t.stopped ≠ s.stopped → i = .stop)

/-- One turn of the run loop: nothing once `running` is 0; else one step, and a fatal record ends the
run and is reported (70_reset_and_hazards.md R334). -/
def Obligations.RunLoopReportsFatal : Prop :=
  ∀ r : RunState, (r.running = false → r.iterate = .next r) ∧
    ∀ t : State, r.running = true → step r.core = .next t →
      (t.fatal = none → r.iterate = .next { r with core := t }) ∧
      (∀ rec, t.fatal = some rec →
        r.iterate = .next { core := t, running := false, report := some rec })

/-! ### Invariants -/

/-- Every step keeps the invariant: memory canonical, bits 3..0 of F zero (10_state.md R13). -/
def Obligations.StepKeepsInvariant : Prop :=
  ∀ s t : State, s.Inv → step s = .next t → t.Inv

/-- The power-on state meets the invariant, with any ROM image. -/
def Obligations.PowerOnMeetsInvariant : Prop :=
  State.reset.Inv ∧ ∀ image : List Byte, (powerOn image).Inv

/-- No step changes a byte of ROM (20_memory.md R35). -/
def Obligations.StepKeepsRom : Prop :=
  ∀ s t : State, s.Inv → step s = .next t →
    ∀ a : Word, a.toNat < 0x8000 → t.readByte a = s.readByte a

/-- The power-on values (70_reset_and_hazards.md R330): registers, status, and every byte. -/
def Obligations.PowerOnValues : Prop :=
  State.reset.af = 0x01B0#16 ∧ State.reset.bc = 0x0013#16 ∧ State.reset.de = 0x00D8#16 ∧
  State.reset.hl = 0x014D#16 ∧ State.reset.pc = 0x0100#16 ∧ State.reset.sp = 0xFFFE#16 ∧
  State.reset.ime = false ∧ State.reset.halted = false ∧ State.reset.stopped = false ∧
  State.reset.fatal = none ∧
  State.reset.flagZ = true ∧ State.reset.flagN = false ∧ State.reset.flagH = true ∧
  State.reset.flagC = true ∧
  ∀ a : Word, (a.toNat < 0xFEA0 ∨ 0xFEFF < a.toNat) → State.reset.readByte a = 0#8

/-- `load_rom` puts byte k of the image at address k for every k below 0x8000; the rest of ROM stays
0x00, bytes beyond are ignored, and no other byte of memory changes (20_memory.md R47). -/
def Obligations.LoadRomPlacesImage : Prop :=
  ∀ (image : List Byte) (a : Word),
    (a.toNat < 0x8000 → (powerOn image).readByte a = image.getD a.toNat 0#8) ∧
    (0x8000 ≤ a.toNat → (powerOn image).readByte a = State.reset.readByte a)

/-! ### Memory -/

/-- Region decode (20_memory.md R31): the twelve ranges. -/
def Obligations.RegionTable : Prop :=
  ∀ a : Word,
    (region a = .rom0 ↔ a.toNat ≤ 0x3FFF) ∧
    (region a = .rom1 ↔ 0x4000 ≤ a.toNat ∧ a.toNat ≤ 0x7FFF) ∧
    (region a = .vram ↔ 0x8000 ≤ a.toNat ∧ a.toNat ≤ 0x9FFF) ∧
    (region a = .eram ↔ 0xA000 ≤ a.toNat ∧ a.toNat ≤ 0xBFFF) ∧
    (region a = .wramA ↔ 0xC000 ≤ a.toNat ∧ a.toNat ≤ 0xCFFF) ∧
    (region a = .wramB ↔ 0xD000 ≤ a.toNat ∧ a.toNat ≤ 0xDFFF) ∧
    (region a = .echo ↔ 0xE000 ≤ a.toNat ∧ a.toNat ≤ 0xFDFF) ∧
    (region a = .oam ↔ 0xFE00 ≤ a.toNat ∧ a.toNat ≤ 0xFE9F) ∧
    (region a = .unusable ↔ 0xFEA0 ≤ a.toNat ∧ a.toNat ≤ 0xFEFF) ∧
    (region a = .io ↔ 0xFF00 ≤ a.toNat ∧ a.toNat ≤ 0xFF7F) ∧
    (region a = .hram ↔ 0xFF80 ≤ a.toNat ∧ a.toNat ≤ 0xFFFE) ∧
    (region a = .ie ↔ a.toNat = 0xFFFF) ∧
    (writable a = true ↔ region a ≠ .rom0 ∧ region a ≠ .rom1 ∧ region a ≠ .unusable) ∧
    (storageAddress a = if region a = .unusable then none
      else if region a = .echo then some (a.toNat - 0x2000) else some a.toNat)

/-- A read after a write (20_memory.md R32, R33, R36): UNUSABLE reads as 0xFF; a write to ROM or
UNUSABLE changes nothing at all; any other write is seen at every address of the same byte, leaves
every other byte alone and changes no register. -/
def Obligations.ReadAfterWrite : Prop :=
  ∀ (s : State) (a : Word) (v : Byte), s.mem.wf →
    (region a = .unusable → s.readByte a = 0xFF#8) ∧
    ((region a = .rom0 ∨ region a = .rom1 ∨ region a = .unusable) → s.writeByte a v = s) ∧
    (region a ≠ .rom0 → region a ≠ .rom1 → region a ≠ .unusable →
      ∀ b : Word, (s.writeByte a v).readByte b =
        if storageAddress b = storageAddress a then v else s.readByte b) ∧
    { s.writeByte a v with mem := s.mem } = s

/-- The echo mirror (20_memory.md R34): an ECHO address reaches work RAM A or B 0x2000 below it, the two
addresses read alike, and a write through either is read through the other; 0xDE00 to 0xDFFF has no
alias. -/
def Obligations.EchoMirrorsWorkRam : Prop :=
  (∀ (s : State) (a : Word) (v : Byte), 0xE000 ≤ a.toNat → a.toNat ≤ 0xFDFF →
    region (a - 0x2000#16) = (if a.toNat ≤ 0xEFFF then .wramA else .wramB) ∧
    s.readByte a = s.readByte (a - 0x2000#16) ∧
    (s.mem.wf → (s.writeByte a v).readByte (a - 0x2000#16) = v ∧
      (s.writeByte (a - 0x2000#16) v).readByte a = v)) ∧
  ∀ a b : Word, 0xDE00 ≤ a.toNat → a.toNat ≤ 0xDFFF → storageAddress b = storageAddress a → b = a

/-- Canonical memories that read alike are equal: equal memories are equal data (log entry 17). -/
def Obligations.CanonicalMemoryIsItsReads : Prop :=
  ∀ m m' : Memory, m.wf → m'.wf → (∀ k : Nat, m.get k = m'.get k) → m = m'

/-- A word read is little-endian, and a word written to two bytes that store it reads back
(20_memory.md R40, R41). -/
def Obligations.WordsAreLittleEndian : Prop :=
  ∀ (s : State) (a v : Word),
    (s.readWord a).toNat = (s.readByte a).toNat + 256 * (s.readByte (a + 1#16)).toNat ∧
    Claims.StoresWord s (s.writeWord a v) a v ∧
    (s.mem.wf → writable a = true → writable (a + 1#16) = true →
      (s.writeWord a v).readWord a = v)

/-- An instruction stored where PC points is the one the next step executes (20_memory.md R49), here for
any one-byte instruction stored to a byte of RAM. -/
def Obligations.FetchSeesStoredByte : Prop :=
  ∀ (s : State) (op : Byte) (i : Instr), s.mem.wf → s.Fetching → writable s.pc = true →
    decode [op] = .ok (i, []) → i ≠ .prefixCb →
    step (s.writeByte s.pc op) = mapNext State.finishStep
      (exec i { s.writeByte s.pc op with pc := s.pc + 1#16 })

/-! ### Interrupts -/

/-- Taking an interrupt (60_exceptions.md R304, R309): with IME set and k the lowest enabled request,
the check clears IME and `halted`, pushes PC, clears bit k of IF as it is after the push, and goes to
0x0040 + 8k; every register, the flags, `stopped`, `fatal` and every other byte are unchanged. -/
def Obligations.InterruptIsTaken : Prop :=
  ∀ (s : State) (k : Nat), s.mem.wf → s.ime = true → k < 5 →
    (s.readByte 0xFF0F#16 &&& s.readByte 0xFFFF#16).getLsbD k = true →
    (∀ j, j < k → (s.readByte 0xFF0F#16 &&& s.readByte 0xFFFF#16).getLsbD j = false) →
    Claims.RegsKept s s.interruptCheck ∧ s.interruptCheck.f = s.f ∧
    s.interruptCheck.ime = false ∧ s.interruptCheck.halted = false ∧
    s.interruptCheck.stopped = s.stopped ∧ s.interruptCheck.fatal = s.fatal ∧
    s.interruptCheck.sp = s.sp - 2#16 ∧ s.interruptCheck.pc = BitVec.ofNat 16 (0x0040 + 8 * k) ∧
    ∀ a : Word, s.interruptCheck.readByte a =
      if a = 0xFF0F#16
      then Claims.afterWord s (s.sp - 2#16) a s.pc &&& ~~~(1#8 <<< k)
      else Claims.afterWord s (s.sp - 2#16) a s.pc

/-- No interrupt is taken while IME is 0 or no source is both requested and enabled: the check then
only clears `halted`, and only when the raw IF byte is not zero (60_exceptions.md R302, R303). -/
def Obligations.NoInterruptWithoutEnable : Prop :=
  ∀ s : State,
    (s.ime = false ∨ s.readByte 0xFF0F#16 &&& s.readByte 0xFFFF#16 &&& 0x1F#8 = 0#8) →
    s.interruptCheck =
      { s with halted := s.halted && decide (s.readByte 0xFF0F#16 = 0#8) }

/-- EI and DI act in their own step (48_system.md R273, R274; the spec's decision D13, log entry 10):
with a request pending and enabled, the step of EI dispatches, pushing the address after EI, and the
step of DI does not. -/
def Obligations.EiAndDiActInTheirOwnStep : Prop :=
  ∀ s : State, s.Fetching →
    s.readByte 0xFF0F#16 &&& s.readByte 0xFFFF#16 &&& 0x1F#8 ≠ 0#8 →
    (s.readByte s.pc = 0xFB#8 → ∃ t, step s = .next t ∧ t.ime = false ∧ t.sp = s.sp - 2#16 ∧
      0x0040 ≤ t.pc.toNat ∧ t.pc.toNat ≤ 0x0060 ∧
      (s.mem.wf → ∀ a, a ≠ 0xFF0F#16 →
        t.readByte a = Claims.afterWord s (s.sp - 2#16) a (s.pc + 1#16))) ∧
    (s.readByte s.pc = 0xF3#8 →
      step s = .next { s with pc := s.pc + 1#16, ime := false })

/-- RETI with another request pending and enabled (60_exceptions.md R310): the step pops the return
address and the check of the same step pushes it again and goes to a vector, so SP is unchanged. -/
def Obligations.RetiDispatchesPendingRequest : Prop :=
  ∀ s : State, s.Fetching → s.mem.wf → s.readByte s.pc = 0xD9#8 →
    s.readByte 0xFF0F#16 &&& s.readByte 0xFFFF#16 &&& 0x1F#8 ≠ 0#8 →
    ∃ t, step s = .next t ∧ t.ime = false ∧ t.sp = s.sp ∧
      0x0040 ≤ t.pc.toNat ∧ t.pc.toNat ≤ 0x0060 ∧
      (s.sp ≠ 0xFF0F#16 → s.sp ≠ 0xFF0E#16 → t.readWord s.sp = s.readWord s.sp)

/-! ### 8-bit loads -/

/-- LD r8,r8', LD r8,(HL) and LD r8,n8 (40_load8.md R100, R101, R103): the address of (HL) is HL as it
was before. -/
def Obligations.LoadRegister : Prop :=
  (∀ (dst src : R8),
    Claims.Decodes [Claims.xyz 1#2 (Claims.r8Code dst) (Claims.r8Code src)] (Instr.ldReg dst src) ∧
    ∀ s : State, ∃ t, exec (Instr.ldReg dst src) s = .next t ∧
      Claims.RegSet s t dst (s.readR8 src) ∧
      t.f = s.f ∧ Claims.ControlKept s t ∧ Claims.MemKept s t) ∧
  (∀ dst : R8, Claims.Decodes [Claims.xyz 1#2 (Claims.r8Code dst) 6#3] (Instr.ldRegMem dst) ∧
    ∀ s : State, ∃ t, exec (Instr.ldRegMem dst) s = .next t ∧
      Claims.RegSet s t dst (s.readByte s.hl) ∧
      t.f = s.f ∧ Claims.ControlKept s t ∧ Claims.MemKept s t) ∧
  (∀ (dst : R8) (n8 : Byte),
    Claims.Decodes [Claims.xyz 0#2 (Claims.r8Code dst) 6#3, n8] (Instr.ldRegN8 dst n8) ∧
    ∀ s : State, ∃ t, exec (Instr.ldRegN8 dst n8) s = .next t ∧ Claims.RegSet s t dst n8 ∧
      t.f = s.f ∧ Claims.ControlKept s t ∧ Claims.MemKept s t)

/-- LD (HL),r8 and LD (HL),n8 (40_load8.md R102, R104). -/
def Obligations.StoreAtHl : Prop :=
  (∀ r : R8, Claims.Decodes [Claims.xyz 1#2 6#3 (Claims.r8Code r)] (Instr.ldMemReg r) ∧
    ∀ s : State, ∃ t, exec (Instr.ldMemReg r) s = .next t ∧
      Claims.StoresByte s t s.hl (s.readR8 r) ∧
      Claims.RegsKept s t ∧ t.f = s.f ∧ Claims.ControlKept s t) ∧
  (∀ n8 : Byte, Claims.Decodes [0x36#8, n8] (.ldMemHlN8 n8) ∧
    ∀ s : State, ∃ t, exec (.ldMemHlN8 n8) s = .next t ∧ Claims.StoresByte s t s.hl n8 ∧
      Claims.RegsKept s t ∧ t.f = s.f ∧ Claims.ControlKept s t)

/-- The loads of A from (BC), (DE), (a16), 0xFF00 + a8 and 0xFF00 + C
(40_load8.md R107, R108, R114, R116, R118). -/
def Obligations.LoadAccumulator : Prop :=
  ∀ (a16 : Word) (a8 : Byte),
    Claims.Decodes [0x0A#8] .ldAMemBc ∧ Claims.Decodes [0x1A#8] .ldAMemDe ∧
    Claims.Decodes [0xFA#8, a16.extractLsb' 0 8, a16.extractLsb' 8 8] (.ldAMemA16 a16) ∧
    Claims.Decodes [0xF0#8, a8] (.ldhAMemA8 a8) ∧ Claims.Decodes [0xF2#8] .ldAMemC ∧
    ∀ s : State, ∀ p ∈ [(Instr.ldAMemBc, s.bc), (.ldAMemDe, s.de), (.ldAMemA16 a16, a16),
        (.ldhAMemA8 a8, 0xFF00#16 + a8.setWidth 16), (.ldAMemC, 0xFF00#16 + s.c.setWidth 16)],
      ∃ t, exec p.1 s = .next t ∧ Claims.RegSet s t .a (s.readByte p.2) ∧
        t.f = s.f ∧ Claims.ControlKept s t ∧ Claims.MemKept s t

/-- The stores of A at (BC), (DE), (a16), 0xFF00 + a8 and 0xFF00 + C
(40_load8.md R105, R106, R113, R115, R117). -/
def Obligations.StoreAccumulator : Prop :=
  ∀ (a16 : Word) (a8 : Byte),
    Claims.Decodes [0x02#8] .ldMemBcA ∧ Claims.Decodes [0x12#8] .ldMemDeA ∧
    Claims.Decodes [0xEA#8, a16.extractLsb' 0 8, a16.extractLsb' 8 8] (.ldMemA16A a16) ∧
    Claims.Decodes [0xE0#8, a8] (.ldhMemA8A a8) ∧ Claims.Decodes [0xE2#8] .ldMemCA ∧
    ∀ s : State, ∀ p ∈ [(Instr.ldMemBcA, s.bc), (.ldMemDeA, s.de), (.ldMemA16A a16, a16),
        (.ldhMemA8A a8, 0xFF00#16 + a8.setWidth 16), (.ldMemCA, 0xFF00#16 + s.c.setWidth 16)],
      ∃ t, exec p.1 s = .next t ∧ Claims.StoresByte s t p.2 s.a ∧
        Claims.RegsKept s t ∧ t.f = s.f ∧ Claims.ControlKept s t

/-- LD (HL+),A, LD (HL-),A, LD A,(HL+) and LD A,(HL-) (40_load8.md R109 to R112): the access is at the
old HL, and HL is adjusted by 1 modulo 65536 without a flag. -/
def Obligations.AccumulatorWithHlAdjust : Prop :=
  Claims.Decodes [0x22#8] .ldMemHlIncA ∧ Claims.Decodes [0x32#8] .ldMemHlDecA ∧
  Claims.Decodes [0x2A#8] .ldAMemHlInc ∧ Claims.Decodes [0x3A#8] .ldAMemHlDec ∧
  ∀ s : State,
    (∀ p ∈ [(Instr.ldMemHlIncA, s.hl + 1#16), (.ldMemHlDecA, s.hl - 1#16)],
      ∃ t, exec p.1 s = .next t ∧ Claims.StoresByte s t s.hl s.a ∧ Claims.PairSet s t .hl p.2 ∧
        t.f = s.f ∧ Claims.ControlKept s t) ∧
    (∀ p ∈ [(Instr.ldAMemHlInc, s.hl + 1#16), (.ldAMemHlDec, s.hl - 1#16)],
      ∃ t, exec p.1 s = .next t ∧ t.a = s.readByte s.hl ∧
        (∀ q, t.readRp q = if q = .hl then p.2 else s.readRp q) ∧
        t.f = s.f ∧ Claims.ControlKept s t ∧ Claims.MemKept s t)

/-! ### 8-bit arithmetic and logic -/

/-- A holds A + b + cin modulo 256; Z, N = 0, H and C as 41_alu8.md R131; nothing else changes. -/
def Sys2Proof.Claims.Adds (s t : State) (b : Byte) (cin : Nat) : Prop :=
  Claims.RegSet s t .a (BitVec.ofNat 8 (s.a.toNat + b.toNat + cin)) ∧
  Claims.FlagsAre s t (decide ((s.a.toNat + b.toNat + cin) % 256 = 0)) false
    (decide (s.a.toNat % 16 + b.toNat % 16 + cin > 0xF))
    (decide (s.a.toNat + b.toNat + cin > 0xFF)) ∧
  Claims.ControlKept s t ∧ Claims.MemKept s t

/-- The flags of A - b - cin (41_alu8.md R132): borrows from the whole byte and from the low nibble. -/
def Sys2Proof.Claims.SubFlags (s t : State) (b : Byte) (cin : Nat) : Prop :=
  Claims.FlagsAre s t (decide (s.a - b - BitVec.ofNat 8 cin = 0#8)) true
    (decide (s.a.toNat % 16 < b.toNat % 16 + cin)) (decide (s.a.toNat < b.toNat + cin)) ∧
  Claims.ControlKept s t ∧ Claims.MemKept s t

/-- An ALU operation on A in its three operand forms, r8, (HL) and n8 (41_alu8.md R130; encodings
30_encoding.md R75, R76): each decodes from its fields and answers a next state with the effect
`E` of the operand byte. -/
def Sys2Proof.Claims.AluForms (op : AluOp) (E : State → State → Byte → Prop) : Prop :=
  (∀ r : R8, Claims.Decodes [Claims.xyz 2#2 (Claims.aluCode op) (Claims.r8Code r)]
      (Instr.aluReg op r) ∧
    ∀ s : State, ∃ t, exec (Instr.aluReg op r) s = .next t ∧ E s t (s.readR8 r)) ∧
  (Claims.Decodes [Claims.xyz 2#2 (Claims.aluCode op) 6#3] (Instr.aluMem op) ∧
    ∀ s : State, ∃ t, exec (Instr.aluMem op) s = .next t ∧ E s t (s.readByte s.hl)) ∧
  (∀ n8 : Byte, Claims.Decodes [Claims.xyz 3#2 (Claims.aluCode op) 6#3, n8] (Instr.aluN8 op n8) ∧
    ∀ s : State, ∃ t, exec (Instr.aluN8 op n8) s = .next t ∧ E s t n8)

/-- ADD and ADC with r8, (HL) and n8 (41_alu8.md R131, R133 to R138). -/
def Obligations.AddAndAdc : Prop :=
  Claims.AluForms .add (fun s t b => Claims.Adds s t b 0) ∧
  Claims.AluForms .adc (fun s t b => Claims.Adds s t b s.flagC.toNat)

/-- SUB and SBC with r8, (HL) and n8 (41_alu8.md R132, R139 to R144). -/
def Obligations.SubAndSbc : Prop :=
  Claims.AluForms .sub (fun s t b =>
    Claims.RegSet s t .a (s.a - b) ∧ Claims.SubFlags s t b 0) ∧
  Claims.AluForms .sbc (fun s t b =>
    Claims.RegSet s t .a (s.a - b - BitVec.ofNat 8 s.flagC.toNat) ∧
    Claims.SubFlags s t b s.flagC.toNat)

/-- AND, XOR and OR with r8, (HL) and n8 (41_alu8.md R145 to R153). -/
def Obligations.AndXorOr : Prop :=
  Claims.AluForms .and (fun s t b => Claims.RegSet s t .a (s.a &&& b) ∧
    Claims.FlagsAre s t (decide (s.a &&& b = 0#8)) false true false ∧
    Claims.ControlKept s t ∧ Claims.MemKept s t) ∧
  Claims.AluForms .xor (fun s t b => Claims.RegSet s t .a (s.a ^^^ b) ∧
    Claims.FlagsAre s t (decide (s.a ^^^ b = 0#8)) false false false ∧
    Claims.ControlKept s t ∧ Claims.MemKept s t) ∧
  Claims.AluForms .or (fun s t b => Claims.RegSet s t .a (s.a ||| b) ∧
    Claims.FlagsAre s t (decide (s.a ||| b = 0#8)) false false false ∧
    Claims.ControlKept s t ∧ Claims.MemKept s t)

/-- CP with r8, (HL) and n8 (41_alu8.md R154 to R156): the flags of SUB, and A is not written; so Z
says A = b and C says A < b. -/
def Obligations.CompareWritesOnlyFlags : Prop :=
  Claims.AluForms .cp (fun s t b => Claims.RegsKept s t ∧ Claims.SubFlags s t b 0 ∧
    (t.flagZ = true ↔ s.a = b) ∧ (t.flagC = true ↔ s.a.toNat < b.toNat))

/-- INC and DEC of a register and of the byte at HL (41_alu8.md R157 to R160): flags from the operand
before, C never affected. -/
def Obligations.IncDecOperand : Prop :=
  (∀ r : R8,
    Claims.Decodes [Claims.xyz 0#2 (Claims.r8Code r) 4#3] (Instr.incReg r) ∧
    Claims.Decodes [Claims.xyz 0#2 (Claims.r8Code r) 5#3] (Instr.decReg r) ∧
    ∀ s : State,
      (∃ t, exec (Instr.incReg r) s = .next t ∧ Claims.RegSet s t r (s.readR8 r + 1#8) ∧
        Claims.FlagsAre s t (decide (s.readR8 r + 1#8 = 0#8)) false
          (decide ((s.readR8 r).toNat % 16 = 0xF)) s.flagC ∧
        Claims.ControlKept s t ∧ Claims.MemKept s t) ∧
      (∃ t, exec (Instr.decReg r) s = .next t ∧ Claims.RegSet s t r (s.readR8 r - 1#8) ∧
        Claims.FlagsAre s t (decide (s.readR8 r - 1#8 = 0#8)) true
          (decide ((s.readR8 r).toNat % 16 = 0)) s.flagC ∧
        Claims.ControlKept s t ∧ Claims.MemKept s t)) ∧
  Claims.Decodes [0x34#8] .incMemHl ∧ Claims.Decodes [0x35#8] .decMemHl ∧
  ∀ s : State,
    (∃ t, exec .incMemHl s = .next t ∧ Claims.StoresByte s t s.hl (s.readByte s.hl + 1#8) ∧
      Claims.FlagsAre s t (decide (s.readByte s.hl + 1#8 = 0#8)) false
        (decide ((s.readByte s.hl).toNat % 16 = 0xF)) s.flagC ∧
      Claims.RegsKept s t ∧ Claims.ControlKept s t) ∧
    (∃ t, exec .decMemHl s = .next t ∧ Claims.StoresByte s t s.hl (s.readByte s.hl - 1#8) ∧
      Claims.FlagsAre s t (decide (s.readByte s.hl - 1#8 = 0#8)) true
        (decide ((s.readByte s.hl).toNat % 16 = 0)) s.flagC ∧
      Claims.RegsKept s t ∧ Claims.ControlKept s t)

/-- ADD A,r8 then SUB r8 restores A, for every register but A itself (41_alu8.md R161). -/
def Obligations.AddThenSubRestoresA : Prop :=
  ∀ (s : State) (r : R8), r ≠ .a → ∃ t u,
    exec (Instr.aluReg .add r) s = .next t ∧ exec (Instr.aluReg .sub r) t = .next u ∧
    u.a = s.a ∧ Claims.RegsKept s u

/-! ### 16-bit arithmetic -/

/-- INC r16 and DEC r16 (42_alu16.md R170, R171): modulo 65536, no flag. -/
def Obligations.IncDecPair : Prop :=
  ∀ p : Rp,
    Claims.Decodes [Claims.xpqz 0#2 (Claims.rpCode p) 0#1 3#3] (Instr.incPair p) ∧
    Claims.Decodes [Claims.xpqz 0#2 (Claims.rpCode p) 1#1 3#3] (Instr.decPair p) ∧
    ∀ s : State, ∀ x ∈ [(Instr.incPair p, s.readRp p + 1#16), (Instr.decPair p, s.readRp p - 1#16)],
      ∃ t, exec x.1 s = .next t ∧ Claims.PairSet s t p x.2 ∧ t.f = s.f ∧ t.pc = s.pc ∧
        Claims.StatusKept s t ∧ Claims.MemKept s t

/-- ADD HL,r16 (42_alu16.md R172): N = 0, H from bit 11, C from bit 15, Z unchanged. -/
def Obligations.AddHlPair : Prop :=
  ∀ p : Rp, Claims.Decodes [Claims.xpqz 0#2 (Claims.rpCode p) 1#1 1#3] (Instr.addHl p) ∧
    ∀ s : State, ∃ t, exec (Instr.addHl p) s = .next t ∧
      Claims.PairSet s t .hl (s.hl + s.readRp p) ∧
      Claims.FlagsAre s t s.flagZ false
        (decide (s.hl.toNat % 0x1000 + (s.readRp p).toNat % 0x1000 > 0xFFF))
        (decide (s.hl.toNat + (s.readRp p).toNat > 0xFFFF)) ∧
      Claims.ControlKept s t ∧ Claims.MemKept s t

/-! ### Rotates and shifts -/

/-- The result of each operation of 43_rotate_shift.md R184 on a byte and the carry flag. -/
def Sys2Proof.Claims.rotated (op : RotOp) (v : Byte) (cin : Bool) : Byte :=
  match op with
  | .rlc => v.rotateLeft 1
  | .rrc => v.rotateRight 1
  | .rl => BitVec.ofNat 8 (2 * v.toNat + cin.toNat)
  | .rr => BitVec.ofNat 8 (v.toNat / 2 + 128 * cin.toNat)
  | .sla => BitVec.ofNat 8 (2 * v.toNat)
  | .sra => v.sshiftRight 1
  | .swap => v.rotateLeft 4
  | .srl => BitVec.ofNat 8 (v.toNat / 2)

/-- The carry out of each operation of R184: bit 7 on the way left, bit 0 on the way right, 0 for
SWAP. -/
def Sys2Proof.Claims.rotateCarry (op : RotOp) (v : Byte) : Bool :=
  match op with
  | .rlc | .rl | .sla => v.msb
  | .rrc | .rr | .sra | .srl => decide (v.toNat % 2 = 1)
  | .swap => false

/-- RLCA, RRCA, RLA and RRA (43_rotate_shift.md R180 to R183): Z, N and H always cleared. -/
def Obligations.AccumulatorRotates : Prop :=
  ∀ p ∈ [(0x07#8, Instr.rlca, RotOp.rlc), (0x0F#8, .rrca, .rrc), (0x17#8, .rla, .rl),
      (0x1F#8, .rra, .rr)],
    Claims.Decodes [p.1] p.2.1 ∧
    ∀ s : State, ∃ t, exec p.2.1 s = .next t ∧
      Claims.RegSet s t .a (Claims.rotated p.2.2 s.a s.flagC) ∧
      Claims.FlagsAre s t false false false (Claims.rotateCarry p.2.2 s.a) ∧
      Claims.ControlKept s t ∧ Claims.MemKept s t

/-- The 0xCB rotates, shifts and SWAP of a register (43_rotate_shift.md R184, R185 to R199 odd). -/
def Obligations.RotateRegister : Prop :=
  ∀ (op : RotOp) (r : R8),
    Claims.Decodes [0xCB#8, Claims.xyz 0#2 (Claims.rotCode op) (Claims.r8Code r)]
      (Instr.rotReg op r) ∧
    ∀ s : State, ∃ t, exec (Instr.rotReg op r) s = .next t ∧
      Claims.RegSet s t r (Claims.rotated op (s.readR8 r) s.flagC) ∧
      Claims.FlagsAre s t (decide (Claims.rotated op (s.readR8 r) s.flagC = 0#8)) false false
        (Claims.rotateCarry op (s.readR8 r)) ∧
      Claims.ControlKept s t ∧ Claims.MemKept s t

/-- The 0xCB rotates, shifts and SWAP of the byte at HL (43_rotate_shift.md R184, R186 to R200
even). -/
def Obligations.RotateMemory : Prop :=
  ∀ op : RotOp,
    Claims.Decodes [0xCB#8, Claims.xyz 0#2 (Claims.rotCode op) 6#3] (Instr.rotMem op) ∧
    ∀ s : State, ∃ t, exec (Instr.rotMem op) s = .next t ∧
      Claims.StoresByte s t s.hl (Claims.rotated op (s.readByte s.hl) s.flagC) ∧
      Claims.FlagsAre s t (decide (Claims.rotated op (s.readByte s.hl) s.flagC = 0#8)) false false
        (Claims.rotateCarry op (s.readByte s.hl)) ∧
      Claims.RegsKept s t ∧ Claims.ControlKept s t

/-! ### Bits -/

/-- BIT b of a register and of the byte at HL (44_bit.md R210, R211): Z is the complement of the bit,
N = 0, H = 1, C unchanged; nothing else is written. -/
def Obligations.BitTest : Prop :=
  ∀ b : Fin 8,
    (∀ r : R8, Claims.Decodes [0xCB#8, Claims.xyz 1#2 (BitVec.ofFin b) (Claims.r8Code r)]
        (Instr.bitReg b r) ∧
      ∀ s : State, ∃ t, exec (Instr.bitReg b r) s = .next t ∧
        Claims.FlagsAre s t (decide ((s.readR8 r).toNat / 2 ^ b.val % 2 = 0)) false true s.flagC ∧
        Claims.RegsKept s t ∧ Claims.ControlKept s t ∧ Claims.MemKept s t) ∧
    (Claims.Decodes [0xCB#8, Claims.xyz 1#2 (BitVec.ofFin b) 6#3] (Instr.bitMem b) ∧
      ∀ s : State, ∃ t, exec (Instr.bitMem b) s = .next t ∧
        Claims.FlagsAre s t (decide ((s.readByte s.hl).toNat / 2 ^ b.val % 2 = 0)) false true
          s.flagC ∧
        Claims.RegsKept s t ∧ Claims.ControlKept s t ∧ Claims.MemKept s t)

/-- `w` is `v` with bit `b` made `x` and the other seven bits as they were. -/
def Sys2Proof.Claims.BitMade (b : Nat) (x : Bool) (v w : Byte) : Prop :=
  ∀ j, j < 8 → w.getLsbD j = if j = b then x else v.getLsbD j

/-- RES b and SET b of a register and of the byte at HL (44_bit.md R212 to R215): no flag. -/
def Obligations.ResAndSet : Prop :=
  ∀ b : Fin 8,
    (∀ r : R8,
      Claims.Decodes [0xCB#8, Claims.xyz 2#2 (BitVec.ofFin b) (Claims.r8Code r)]
        (Instr.resReg b r) ∧
      Claims.Decodes [0xCB#8, Claims.xyz 3#2 (BitVec.ofFin b) (Claims.r8Code r)]
        (Instr.setReg b r) ∧
      ∀ s : State, ∀ p ∈ [(Instr.resReg b r, false), (Instr.setReg b r, true)],
        ∃ t w, exec p.1 s = .next t ∧ Claims.BitMade b.val p.2 (s.readR8 r) w ∧
          Claims.RegSet s t r w ∧ t.f = s.f ∧ Claims.ControlKept s t ∧ Claims.MemKept s t) ∧
    Claims.Decodes [0xCB#8, Claims.xyz 2#2 (BitVec.ofFin b) 6#3] (Instr.resMem b) ∧
    Claims.Decodes [0xCB#8, Claims.xyz 3#2 (BitVec.ofFin b) 6#3] (Instr.setMem b) ∧
    ∀ s : State, ∀ p ∈ [(Instr.resMem b, false), (Instr.setMem b, true)],
      ∃ t w, exec p.1 s = .next t ∧ Claims.BitMade b.val p.2 (s.readByte s.hl) w ∧
        Claims.StoresByte s t s.hl w ∧ Claims.RegsKept s t ∧ t.f = s.f ∧ Claims.ControlKept s t

/-! ### Decimal adjust and flags -/

/-- DAA (45_bcd_flags.md R220): both tests of the addition path read A before the instruction (the
spec's decision D11) and C keeps its value after a subtraction (93_implementation_defined.md U2);
log entry 8. -/
def Obligations.DecimalAdjust : Prop :=
  Claims.Decodes [0x27#8] .daa ∧
  ∀ s : State, ∃ t, exec .daa s = .next t ∧
    (s.flagN = false →
      t.a = BitVec.ofNat 8 (s.a.toNat +
        (if s.flagC = true ∨ s.a.toNat > 0x99 then 0x60 else 0) +
        (if s.flagH = true ∨ s.a.toNat % 16 > 9 then 0x06 else 0)) ∧
      t.flagC = (s.flagC || decide (s.a.toNat > 0x99))) ∧
    (s.flagN = true →
      t.a = s.a - BitVec.ofNat 8 ((if s.flagC = true then 0x60 else 0) +
        (if s.flagH = true then 0x06 else 0)) ∧
      t.flagC = s.flagC) ∧
    Claims.RegSet s t .a t.a ∧ Claims.FlagsAre s t (decide (t.a = 0#8)) s.flagN false t.flagC ∧
    Claims.ControlKept s t ∧ Claims.MemKept s t

/-- DAA "adjusts the accumulator to valid packed-BCD after an 8-bit add or subtract"
(45_bcd_flags.md R220): on two-digit decimal operands, ADD then DAA gives the decimal sum with C as
the hundreds digit, and SUB then DAA the decimal difference with C as the borrow. -/
def Obligations.DecimalAdjustIsBcd : Prop :=
  ∀ (s : State) (n8 : Byte) (x1 x0 y1 y0 : Nat),
    x1 ≤ 9 → x0 ≤ 9 → y1 ≤ 9 → y0 ≤ 9 → s.a.toNat = 16 * x1 + x0 → n8.toNat = 16 * y1 + y0 →
    (∃ t u z1 z0, exec (.addAN8 n8) s = .next t ∧ exec .daa t = .next u ∧
      z1 ≤ 9 ∧ z0 ≤ 9 ∧ u.a.toNat = 16 * z1 + z0 ∧
      10 * x1 + x0 + (10 * y1 + y0) = 100 * u.flagC.toNat + 10 * z1 + z0) ∧
    (∃ t u z1 z0, exec (.subN8 n8) s = .next t ∧ exec .daa t = .next u ∧
      z1 ≤ 9 ∧ z0 ≤ 9 ∧ u.a.toNat = 16 * z1 + z0 ∧
      10 * x1 + x0 + 100 * u.flagC.toNat = 10 * y1 + y0 + 10 * z1 + z0)

/-- CPL, SCF and CCF (45_bcd_flags.md R221 to R223). -/
def Obligations.CplScfCcf : Prop :=
  Claims.Decodes [0x2F#8] .cpl ∧ Claims.Decodes [0x37#8] .scf ∧ Claims.Decodes [0x3F#8] .ccf ∧
  ∀ s : State,
    (∃ t, exec .cpl s = .next t ∧ Claims.RegSet s t .a (0xFF#8 - s.a) ∧
      Claims.FlagsAre s t s.flagZ true true s.flagC ∧
      Claims.ControlKept s t ∧ Claims.MemKept s t) ∧
    (∃ t, exec .scf s = .next t ∧ Claims.RegsKept s t ∧
      Claims.FlagsAre s t s.flagZ false false true ∧
      Claims.ControlKept s t ∧ Claims.MemKept s t) ∧
    (∃ t, exec .ccf s = .next t ∧ Claims.RegsKept s t ∧
      Claims.FlagsAre s t s.flagZ false false (!s.flagC) ∧
      Claims.ControlKept s t ∧ Claims.MemKept s t)

/-! ### Control transfer -/

/-- `cond(cc)` (46_control.md R230), read from bits 7 and 4 of F. -/
def Sys2Proof.Claims.holds (s : State) : Cond → Bool
  | .nz => !s.f.getLsbD 7
  | .z => s.f.getLsbD 7
  | .nc => !s.f.getLsbD 4
  | .c => s.f.getLsbD 4

/-- JR, JP and JP HL, and JR cc and JP cc (46_control.md R230 to R235): only PC changes. `s.pc` is the
address after the instruction. -/
def Obligations.Jumps : Prop :=
  ∀ (e8 : Byte) (a16 : Word),
    Claims.Decodes [0x18#8, e8] (.jrE8 e8) ∧
    Claims.Decodes [0xC3#8, a16.extractLsb' 0 8, a16.extractLsb' 8 8] (.jpA16 a16) ∧
    Claims.Decodes [0xE9#8] .jpHl ∧
    (∀ s : State,
      exec (.jrE8 e8) s = .next { s with pc := BitVec.ofInt 16 (s.pc.toNat + e8.toInt) } ∧
      exec (.jpA16 a16) s = .next { s with pc := a16 } ∧
      exec .jpHl s = .next { s with pc := s.hl }) ∧
    ∀ cc : Cond,
      Claims.Decodes [Claims.xyz 0#2 (1#1 ++ Claims.ccCode cc) 0#3, e8] (Instr.jrIf cc e8) ∧
      Claims.Decodes [Claims.xyz 3#2 (0#1 ++ Claims.ccCode cc) 2#3, a16.extractLsb' 0 8,
        a16.extractLsb' 8 8] (Instr.jpIf cc a16) ∧
      ∀ s : State,
        exec (Instr.jrIf cc e8) s = .next (if Claims.holds s cc = true
          then { s with pc := BitVec.ofInt 16 (s.pc.toNat + e8.toInt) } else s) ∧
        exec (Instr.jpIf cc a16) s =
          .next (if Claims.holds s cc = true then { s with pc := a16 } else s)

/-- `t` is `s` with PC pushed and then `target` in PC (46_control.md R236, 20_memory.md R45). -/
def Sys2Proof.Claims.Calls (s t : State) (target : Word) : Prop :=
  t.pc = target ∧ t.sp = s.sp - 2#16 ∧ Claims.StoresWord s t (s.sp - 2#16) s.pc ∧
  Claims.RegsKept s t ∧ t.f = s.f ∧ Claims.StatusKept s t

/-- CALL, CALL cc and RST (46_control.md R236, R237, R241): the address after the instruction is
pushed; a CALL cc that is not taken changes nothing. -/
def Obligations.Calls : Prop :=
  (∀ a16 : Word,
    Claims.Decodes [0xCD#8, a16.extractLsb' 0 8, a16.extractLsb' 8 8] (.callA16 a16) ∧
    (∀ s : State, ∃ t, exec (.callA16 a16) s = .next t ∧ Claims.Calls s t a16) ∧
    ∀ cc : Cond,
      Claims.Decodes [Claims.xyz 3#2 (0#1 ++ Claims.ccCode cc) 4#3, a16.extractLsb' 0 8,
        a16.extractLsb' 8 8] (Instr.callIf cc a16) ∧
      ∀ s : State, ∃ t, exec (Instr.callIf cc a16) s = .next t ∧
        if Claims.holds s cc = true then Claims.Calls s t a16 else t = s) ∧
  (∀ y : Fin 8,
    Claims.Decodes [Claims.xyz 3#2 (BitVec.ofFin y) 7#3] (Instr.rst y) ∧
    ∀ s : State, ∃ t, exec (Instr.rst y) s = .next t ∧
      Claims.Calls s t (BitVec.ofNat 16 (8 * y.val)))

/-- RET, RET cc and RETI (46_control.md R238 to R240): PC is popped; RETI also sets IME, and at once
(70_reset_and_hazards.md R337; the spec's decision D13, log entry 10); a RET cc that is not taken
changes nothing. -/
def Obligations.Returns : Prop :=
  Claims.Decodes [0xC9#8] .ret ∧ Claims.Decodes [0xD9#8] .reti ∧
  (∀ s : State,
    exec .ret s = .next { s with
      sp := s.sp + 2#16, pc := s.readByte (s.sp + 1#16) ++ s.readByte s.sp } ∧
    exec .reti s = .next { s with
      sp := s.sp + 2#16, pc := s.readByte (s.sp + 1#16) ++ s.readByte s.sp, ime := true }) ∧
  ∀ cc : Cond, Claims.Decodes [Claims.xyz 3#2 (0#1 ++ Claims.ccCode cc) 0#3] (Instr.retIf cc) ∧
    ∀ s : State, exec (Instr.retIf cc) s = .next (if Claims.holds s cc = true
      then { s with sp := s.sp + 2#16, pc := s.readByte (s.sp + 1#16) ++ s.readByte s.sp }
      else s)

/-! ### Stack and 16-bit loads -/

/-- PUSH (47_stack_sp.md R250, 20_memory.md R45). -/
def Obligations.PushPair : Prop :=
  ∀ p : Rp2, Claims.Decodes [Claims.xpqz 3#2 (Claims.rp2Code p) 0#1 5#3] (Instr.push p) ∧
    ∀ s : State, ∃ t, exec (Instr.push p) s = .next t ∧ t.sp = s.sp - 2#16 ∧
      Claims.StoresWord s t (s.sp - 2#16) (s.readRp2 p) ∧
      Claims.RegsKept s t ∧ t.f = s.f ∧ t.pc = s.pc ∧ Claims.StatusKept s t

/-- POP BC, DE, HL and POP AF (47_stack_sp.md R251, R252): POP AF masks the word with 0xFFF0. -/
def Obligations.PopPair : Prop :=
  (∀ p : Rp2, Claims.Decodes [Claims.xpqz 3#2 (Claims.rp2Code p) 0#1 1#3] (Instr.pop p)) ∧
  (∀ p : Rp2, p ≠ .af → ∀ s : State, ∃ t, exec (Instr.pop p) s = .next t ∧
    (∀ q, t.readRp2 q = if q = p then s.readByte (s.sp + 1#16) ++ s.readByte s.sp
      else s.readRp2 q) ∧
    t.sp = s.sp + 2#16 ∧ t.pc = s.pc ∧ Claims.StatusKept s t ∧ Claims.MemKept s t) ∧
  (∀ s : State, ∃ t, exec .popAf s = .next t ∧
    (∀ q, q ≠ .af → t.readRp2 q = s.readRp2 q) ∧
    t.a = s.readByte (s.sp + 1#16) ∧
    t.f = BitVec.ofNat 8 ((s.readByte s.sp).toNat / 16 * 16) ∧
    t.sp = s.sp + 2#16 ∧ t.pc = s.pc ∧ Claims.StatusKept s t ∧ Claims.MemKept s t)

/-- "`PUSH BC; POP DE` yields `DE == original BC` for any BC value" (47_stack_sp.md R251), for every
pair pushed and every pair of BC, DE, HL popped, if both stack bytes store what is written. -/
def Obligations.PushThenPopMovesPair : Prop :=
  ∀ (s : State) (p q : Rp2), q ≠ .af → s.mem.wf →
    writable (s.sp - 2#16) = true → writable (s.sp - 1#16) = true →
    ∃ t u, exec (Instr.push p) s = .next t ∧ exec (Instr.pop q) t = .next u ∧
      u.readRp2 q = s.readRp2 p ∧ u.sp = s.sp ∧ ∀ x, x ≠ q → u.readRp2 x = s.readRp2 x

/-- LD r16,n16, LD (a16),SP and LD SP,HL (47_stack_sp.md R253 to R255). -/
def Obligations.WideLoads : Prop :=
  (∀ (p : Rp) (n16 : Word),
    Claims.Decodes [Claims.xpqz 0#2 (Claims.rpCode p) 0#1 1#3, n16.extractLsb' 0 8,
      n16.extractLsb' 8 8] (Instr.ldPairN16 p n16) ∧
    ∀ s : State, ∃ t, exec (Instr.ldPairN16 p n16) s = .next t ∧ Claims.PairSet s t p n16 ∧
      t.f = s.f ∧ t.pc = s.pc ∧ Claims.StatusKept s t ∧ Claims.MemKept s t) ∧
  (∀ a16 : Word,
    Claims.Decodes [0x08#8, a16.extractLsb' 0 8, a16.extractLsb' 8 8] (.ldMemA16Sp a16) ∧
    ∀ s : State, ∃ t, exec (.ldMemA16Sp a16) s = .next t ∧ Claims.StoresWord s t a16 s.sp ∧
      Claims.RegsKept s t ∧ t.f = s.f ∧ Claims.ControlKept s t) ∧
  Claims.Decodes [0xF9#8] .ldSpHl ∧
  ∀ s : State, exec .ldSpHl s = .next { s with sp := s.hl }

/-- LD HL,SP+e8 and ADD SP,e8 (47_stack_sp.md R256 to R258), in terms of carries: C is the carry out of
the low byte and H the carry out of bit 11 (SPE_H_BIT = 12, the spec's value of an open parameter,
log entry 2); Z and N are cleared (the spec's decision D10, log entry 9). -/
def Obligations.SpPlusDisplacement : Prop :=
  ∀ e8 : Byte, Claims.Decodes [0xF8#8, e8] (.ldHlSpE8 e8) ∧
    Claims.Decodes [0xE8#8, e8] (.addSpE8 e8) ∧
    ∀ s : State, ∀ p ∈ [(Instr.ldHlSpE8 e8, Rp.hl), (.addSpE8 e8, .sp)],
      ∃ t, exec p.1 s = .next t ∧
        Claims.PairSet s t p.2 (BitVec.ofInt 16 (s.sp.toNat + e8.toInt)) ∧
        Claims.FlagsAre s t false false
          (decide (s.sp.toNat % 0x1000 + (e8.signExtend 16).toNat % 0x1000 > 0xFFF))
          (decide (s.sp.toNat % 0x100 + e8.toNat > 0xFF)) ∧
        t.pc = s.pc ∧ Claims.StatusKept s t ∧ Claims.MemKept s t

/-- The machine at any admitted values of its parameters. The two open ones (00_scope.md R2, R3; D8,
D9): STOP advances PC by STOP_EXTRA_ADVANCE; LD HL,SP+e8 and ADD SP,e8 give the same sum and carry, and H is the
carry out of the bits below SPE_H_BIT; at the spec's own values (log entries 1, 2) every instruction
is the machine's own. MEM_INIT (R4; D3): power-on with any function fills every array other than ROM
with it, ROM holds the image and the zero fill, no other state changes, and at the spec's own value
(log entry 3) it is the machine's own power-on. -/
def Obligations.OpenParameters : Prop :=
  (∀ p : Config.Params, p.Valid →
    (∀ s : State, execWith p .stop s =
      .next { s with stopped := true, pc := s.pc + BitVec.ofNat 16 p.stopExtraAdvance }) ∧
    ∀ e8 : Byte, ∀ s : State, ∀ q ∈ [(Instr.ldHlSpE8 e8, Rp.hl), (.addSpE8 e8, .sp)],
      ∃ t, execWith p q.1 s = .next t ∧
        Claims.PairSet s t q.2 (BitVec.ofInt 16 (s.sp.toNat + e8.toInt)) ∧
        Claims.FlagsAre s t false false
          (decide (s.sp.toNat % 2 ^ p.speHBit + (e8.signExtend 16).toNat % 2 ^ p.speHBit ≥
            2 ^ p.speHBit))
          (decide (s.sp.toNat % 0x100 + e8.toNat > 0xFF)) ∧
        t.pc = s.pc ∧ Claims.StatusKept s t ∧ Claims.MemKept s t) ∧
  Config.Params.Valid Config.Params.spec ∧
  (∀ i : Instr, ∀ s : State, execWith Config.Params.spec i s = exec i s) ∧
  (∀ (init : Nat → Byte) (image : List Byte),
    (powerOnWith init image).Inv ∧ { powerOnWith init image with mem := [] } = State.reset ∧
    ∀ a : Word, (powerOnWith init image).readByte a =
      if a.toNat < 0x8000 then image.getD a.toNat 0#8
      else if region a = .unusable then 0xFF#8
      else if region a = .echo then init (a.toNat - 0x2000)
      else init a.toNat) ∧
  ∀ image : List Byte, powerOnWith Config.memInit image = powerOn image

/-! ### System -/

/-- NOP, HALT, DI and EI (48_system.md R270, R271, R273, R274): each changes at most its one bit. That
EI and DI write IME at once, EI with no delay, is the spec's decision D13 (log entry 10). -/
def Obligations.NopHaltDiEi : Prop :=
  Claims.Decodes [0x00#8] .nop ∧ Claims.Decodes [0x76#8] .halt ∧ Claims.Decodes [0xF3#8] .di ∧
  Claims.Decodes [0xFB#8] .ei ∧
  ∀ s : State, exec .nop s = .next s ∧ exec .halt s = .next { s with halted := true } ∧
    exec .di s = .next { s with ime := false } ∧ exec .ei s = .next { s with ime := true }

/-- STOP (48_system.md R272) sets `stopped` and advances PC by STOP_EXTRA_ADVANCE, whose value here is 2
(the spec's value of an open parameter, D8, log entry 1): a step at address p with IME 0 ends at
p + 3. -/
def Obligations.StopSetsStopped : Prop :=
  Claims.Decodes [0x10#8] .stop ∧
  (∀ s : State, exec .stop s = .next { s with stopped := true, pc := s.pc + 2#16 }) ∧
  ∀ s : State, s.Fetching → s.readByte s.pc = 0x10#8 → s.ime = false →
    step s = .next { s with stopped := true, pc := s.pc + 3#16 }

/-- PREFIX CB (48_system.md R275): it fetches a second byte and executes the instruction of the 0xCB
table that the byte selects; as bytes of a program, prefix and second byte are one instruction. R275
says that 0xCB is not an instruction by itself: that a lone 0xCB decodes to `prefixCb`, and what `exec`
does with it, is the model's choice (log entry 19, DESIGN CHOICE). -/
def Obligations.PrefixRunsSecondByte : Prop :=
  decode [0xCB#8] = .ok (.prefixCb, []) ∧
  (∀ op2 : Byte, Claims.Decodes [0xCB#8, op2] (decodeCb op2)) ∧
  ∀ s : State, exec .prefixCb s = exec (decodeCb (s.readByte s.pc)) { s with pc := s.pc + 1#16 } ∧
    ∃ t, exec .prefixCb s = .next t
end

