-- ==== Sys2Proof/Laws/Encoding.lean ====
section
/-! SUPPORT. Small laws of the decoder and the encoder. -/

namespace Sys2Proof.Laws

theorem append_bytes_toNat (hi lo : Byte) :
    (hi ++ lo : Word).toNat = hi.toNat * 256 + lo.toNat := by
  refine (BitVec.toNat_append hi lo).trans ?_
  rw [← Nat.shiftLeft_add_eq_or_of_lt lo.isLt, Nat.shiftLeft_eq]

theorem immediate_toNat (hi lo : Byte) : (immediate hi lo).toNat = hi.toNat * 256 + lo.toNat :=
  append_bytes_toNat hi lo

/-- Splitting an immediate into its two bytes and joining them gives it back. -/
theorem immediate_bytes (v : Word) :
    immediate (v.extractLsb' 8 8) (v.extractLsb' 0 8) = v := by
  apply BitVec.eq_of_toNat_eq
  have := v.isLt
  rw [immediate_toNat, BitVec.extractLsb'_toNat, BitVec.extractLsb'_toNat, Nat.shiftRight_eq_div_pow,
    Nat.shiftRight_eq_div_pow]
  omega

theorem immediate_low (hi lo : Byte) : (immediate hi lo).extractLsb' 0 8 = lo := by
  apply BitVec.eq_of_toNat_eq
  have := lo.isLt
  rw [BitVec.extractLsb'_toNat, immediate_toNat, Nat.shiftRight_eq_div_pow]
  omega

theorem immediate_high (hi lo : Byte) : (immediate hi lo).extractLsb' 8 8 = hi := by
  apply BitVec.eq_of_toNat_eq
  have := hi.isLt
  have := lo.isLt
  rw [BitVec.extractLsb'_toNat, immediate_toNat, Nat.shiftRight_eq_div_pow]
  omega

end Sys2Proof.Laws
end

