-- ==== Sys2Proof/Laws/Memory.lean ====
section
/-! SUPPORT. Laws of the storage list and of the byte and word accesses: canonical form, read after
write, frames. Provers cite these instead of unfolding the list. -/

namespace Sys2Proof.Machine

/-! ### The storage list -/

theorem Memory.get_cellFor_self (k : Nat) (v : Byte) : (Memory.cellFor k v).get k = v := by
  unfold Memory.cellFor
  split
  · simpa [Memory.get] using (Eq.symm ‹v = Config.memInit k›)
  · simp [Memory.get]

theorem Memory.get_cellFor_append {k j : Nat} (v : Byte) (m : Memory) (h : j ≠ k) :
    (Memory.cellFor k v ++ m).get j = m.get j := by
  unfold Memory.cellFor
  split
  · rfl
  · simp [Memory.get, Ne.symm h]

/-- An address below every listed one is unlisted. -/
theorem Memory.get_eq_memInit {m : Memory} {k : Nat} (h : ∀ cell ∈ m, k < cell.1) :
    m.get k = Config.memInit k := by
  induction m with
  | nil => rfl
  | cons cell rest ih =>
    have hlt := h cell (by simp)
    rw [Memory.get, if_neg (by omega)]
    exact ih fun c hc => h c (by simp [hc])

theorem Memory.get_cellFor_append_self {k : Nat} (v : Byte) {m : Memory}
    (h : ∀ cell ∈ m, k < cell.1) : (Memory.cellFor k v ++ m).get k = v := by
  unfold Memory.cellFor
  split
  · rw [List.nil_append, Memory.get_eq_memInit h]
    exact (Eq.symm ‹v = Config.memInit k›)
  · simp [Memory.get]

theorem Memory.wf_tail {cell : Host.Cell} {m : Memory} (h : Memory.wf (cell :: m)) : m.wf :=
  ⟨(List.pairwise_cons.mp h.1).2, fun c hc => h.2 c (by simp [hc])⟩

theorem Memory.wf_head_lt {cell : Host.Cell} {m : Memory} (h : Memory.wf (cell :: m)) :
    ∀ c ∈ m, cell.1 < c.1 :=
  (List.pairwise_cons.mp h.1).1

/-- Read after write on a canonical list: the written address reads the byte, every other address reads
as before. -/
theorem Memory.get_set {m : Memory} (hm : m.wf) (k : Nat) (v : Byte) (j : Nat) :
    (m.set k v).get j = if j = k then v else m.get j := by
  induction m with
  | nil =>
    split
    · subst j; exact Memory.get_cellFor_self k v
    · simpa [Memory.set] using Memory.get_cellFor_append v [] ‹j ≠ k›
  | cons cell rest ih =>
    have hlt := Memory.wf_head_lt hm
    unfold Memory.set
    split
    · have hall : ∀ c ∈ cell :: rest, k < c.1 := by
        intro c hc
        rcases List.mem_cons.mp hc with rfl | hc
        · assumption
        · have := hlt c hc; omega
      split
      · subst j; exact Memory.get_cellFor_append_self v hall
      · exact Memory.get_cellFor_append v _ ‹j ≠ k›
    · split
      · subst k
        split
        · subst j; exact Memory.get_cellFor_append_self v hlt
        · rw [Memory.get_cellFor_append v _ ‹j ≠ cell.1›, Memory.get,
            if_neg (Ne.symm ‹j ≠ cell.1›)]
      · rw [Memory.get, ih (Memory.wf_tail hm), Memory.get]
        split
        · rw [if_neg (by omega)]
        · rfl

theorem Memory.mem_cellFor {k : Nat} {v : Byte} {c : Host.Cell} (h : c ∈ Memory.cellFor k v) :
    c = (k, v) ∧ v ≠ Config.memInit k := by
  unfold Memory.cellFor at h
  split at h
  · simp at h
  · exact ⟨by simpa using h, ‹_›⟩

theorem Memory.wf_cellFor_append {k : Nat} (v : Byte) {m : Memory} (hk : ownsStorage k = true)
    (hm : m.wf) (hlt : ∀ c ∈ m, k < c.1) : Memory.wf (Memory.cellFor k v ++ m) := by
  unfold Memory.cellFor
  split
  · simpa using hm
  · refine ⟨List.pairwise_cons.mpr ⟨hlt, hm.1⟩, fun c hc => ?_⟩
    rcases List.mem_cons.mp hc with rfl | hc
    · exact ⟨hk, ‹_›⟩
    · exact hm.2 c hc

theorem Memory.lt_of_mem_set {m : Memory} {k : Nat} {v : Byte} {b : Nat} (hb : b < k)
    (h : ∀ c ∈ m, b < c.1) : ∀ c ∈ m.set k v, b < c.1 := by
  induction m with
  | nil =>
    intro c hc
    obtain ⟨rfl, -⟩ := Memory.mem_cellFor hc
    exact hb
  | cons cell rest ih =>
    intro c hc
    unfold Memory.set at hc
    split at hc
    · rcases List.mem_append.mp hc with hc | hc
      · obtain ⟨rfl, -⟩ := Memory.mem_cellFor hc
        exact hb
      · exact h c hc
    · split at hc
      · rcases List.mem_append.mp hc with hc | hc
        · obtain ⟨rfl, -⟩ := Memory.mem_cellFor hc
          exact hb
        · exact h c (by simp [hc])
      · rcases List.mem_cons.mp hc with rfl | hc
        · exact h _ (by simp)
        · exact ih (fun c hc => h c (by simp [hc])) c hc

/-- A write to a byte that owns storage keeps the canonical form. -/
theorem Memory.wf_set {m : Memory} (hm : m.wf) {k : Nat} (hk : ownsStorage k = true) (v : Byte) :
    (m.set k v).wf := by
  induction m with
  | nil => simpa [Memory.set] using Memory.wf_cellFor_append v hk hm (by simp)
  | cons cell rest ih =>
    have hlt := Memory.wf_head_lt hm
    unfold Memory.set
    split
    · refine Memory.wf_cellFor_append v hk hm fun c hc => ?_
      rcases List.mem_cons.mp hc with rfl | hc
      · assumption
      · have := hlt c hc; omega
    · split
      · subst k
        exact Memory.wf_cellFor_append v hk (Memory.wf_tail hm) hlt
      · have hrest := ih (Memory.wf_tail hm)
        refine ⟨List.pairwise_cons.mpr ⟨Memory.lt_of_mem_set (by omega) hlt, hrest.1⟩, fun c hc => ?_⟩
        rcases List.mem_cons.mp hc with rfl | hc
        · exact hm.2 _ (by simp)
        · exact hrest.2 c hc

/-! ### Regions -/

/-- Region decode as bounds: unfold `regionOf` once, here. -/
theorem regionOf_unusable {k : Nat} : regionOf k = .unusable ↔ 0xFEA0 ≤ k ∧ k ≤ 0xFEFF := by
  unfold regionOf
  repeat' split
  all_goals simp; omega

theorem regionOf_echo {k : Nat} : regionOf k = .echo ↔ 0xE000 ≤ k ∧ k ≤ 0xFDFF := by
  unfold regionOf
  repeat' split
  all_goals simp; omega

theorem regionOf_rom {k : Nat} : (regionOf k = .rom0 ∨ regionOf k = .rom1) ↔ k ≤ 0x7FFF := by
  unfold regionOf
  repeat' split
  all_goals simp; omega

theorem ownsStorage_iff {k : Nat} :
    ownsStorage k = true ↔
      k < 0x10000 ∧ ¬ (0xE000 ≤ k ∧ k ≤ 0xFDFF) ∧ ¬ (0xFEA0 ≤ k ∧ k ≤ 0xFEFF) := by
  have he := regionOf_echo (k := k)
  have hu := regionOf_unusable (k := k)
  simp [ownsStorage, bne_iff_ne, he, hu, and_assoc]

theorem writable_iff {a : Word} :
    writable a = true ↔ 0x8000 ≤ a.toNat ∧ ¬ (0xFEA0 ≤ a.toNat ∧ a.toNat ≤ 0xFEFF) := by
  have hu := regionOf_unusable (k := a.toNat)
  have hr := regionOf_rom (k := a.toNat)
  unfold writable region
  cases h : regionOf a.toNat <;> rw [h] at hu hr <;> simp at hu hr ⊢ <;> omega

/-- The address that owns the byte, as bounds. -/
theorem storageAddress_eq (a : Word) :
    storageAddress a =
      if 0xFEA0 ≤ a.toNat ∧ a.toNat ≤ 0xFEFF then none
      else if 0xE000 ≤ a.toNat ∧ a.toNat ≤ 0xFDFF then some (a.toNat - 0x2000)
      else some a.toNat := by
  have hu := regionOf_unusable (k := a.toNat)
  have he := regionOf_echo (k := a.toNat)
  unfold storageAddress region
  cases h : regionOf a.toNat <;> rw [h] at hu he <;> simp at hu he ⊢ <;>
    omega

theorem ownsStorage_of_storageAddress {a : Word} {k : Nat} (h : storageAddress a = some k) :
    ownsStorage k = true := by
  have := a.isLt
  rw [storageAddress_eq] at h
  rw [ownsStorage_iff]
  split at h
  · simp at h
  · split at h
    · have := Option.some.inj h; omega
    · have := Option.some.inj h; omega

theorem exists_storage_of_writable {a : Word} (h : writable a = true) :
    ∃ k, storageAddress a = some k := by
  rw [writable_iff] at h
  rw [storageAddress_eq, if_neg (by omega)]
  split <;> exact ⟨_, rfl⟩

/-! ### Byte accesses -/

theorem State.readByte_congr {s t : State} (h : t.mem = s.mem) (a : Word) :
    t.readByte a = s.readByte a := by
  unfold State.readByte
  rw [h]

/-- A write that is not stored changes nothing (20_memory.md R33, R35, R36). -/
theorem State.writeByte_discarded {s : State} {a : Word} (h : writable a = false) (v : Byte) :
    s.writeByte a v = s := by
  simp [State.writeByte, h]

theorem State.writeByte_stored {s : State} {a : Word} {k : Nat} (h : writable a = true)
    (hk : storageAddress a = some k) (v : Byte) :
    s.writeByte a v = { s with mem := s.mem.set k v } := by
  simp [State.writeByte, State.storeRaw, h, hk]

/-- Everything a byte write can do: only memory changes. -/
theorem State.writeByte_eq (s : State) (a : Word) (v : Byte) :
    s.writeByte a v = { s with mem := (s.writeByte a v).mem } := by
  unfold State.writeByte State.storeRaw
  split
  · split <;> rfl
  · rfl

/-- Everything a raw store can do: only memory changes. -/
theorem State.storeRaw_eq (s : State) (a : Word) (v : Byte) :
    s.storeRaw a v = { s with mem := (s.storeRaw a v).mem } := by
  unfold State.storeRaw
  split <;> rfl

/-- Read after write, for every pair of addresses (20_memory.md R32 to R36). -/
theorem State.readByte_writeByte {s : State} (hm : s.mem.wf) (a : Word) (v : Byte) (b : Word) :
    (s.writeByte a v).readByte b =
      if writable a = true ∧ storageAddress b = storageAddress a then v else s.readByte b := by
  cases hw : writable a with
  | false => simp [State.writeByte_discarded hw]
  | true =>
    obtain ⟨k, hk⟩ := exists_storage_of_writable hw
    rw [State.writeByte_stored hw hk, hk]
    unfold State.readByte
    cases hb : storageAddress b with
    | none => simp
    | some j => simp [Memory.get_set hm]

theorem State.wf_writeByte {s : State} (hm : s.mem.wf) (a : Word) (v : Byte) :
    (s.writeByte a v).mem.wf := by
  cases hw : writable a with
  | false => rwa [State.writeByte_discarded hw]
  | true =>
    obtain ⟨k, hk⟩ := exists_storage_of_writable hw
    rw [State.writeByte_stored hw hk]
    exact Memory.wf_set hm (ownsStorage_of_storageAddress hk) v

theorem State.wf_storeRaw {s : State} (hm : s.mem.wf) (a : Word) (v : Byte) :
    (s.storeRaw a v).mem.wf := by
  unfold State.storeRaw
  split
  · exact Memory.wf_set hm (ownsStorage_of_storageAddress ‹_›) v
  · exact hm

/-- The memory after a byte write depends on the memory before it alone. -/
theorem State.mem_writeByte_congr {s t : State} (h : t.mem = s.mem) (a : Word) (v : Byte) :
    (t.writeByte a v).mem = (s.writeByte a v).mem := by
  unfold State.writeByte State.storeRaw
  cases writable a with
  | false => exact h
  | true => cases storageAddress a with
    | none => exact h
    | some k => exact congrArg (fun m => Memory.set m k v) h

/-- "ROM is read-only to the core" (20_memory.md R35): a write through any address leaves it. -/
theorem State.readByte_writeByte_rom {s : State} (hm : s.mem.wf) (x : Word) (v : Byte) {a : Word}
    (ha : a.toNat < 0x8000) : (s.writeByte x v).readByte a = s.readByte a := by
  have hx := writable_iff (a := x)
  have hs : storageAddress a = some a.toNat := by
    rw [storageAddress_eq, if_neg (by omega), if_neg (by omega)]
  rw [State.readByte_writeByte hm, if_neg]
  rintro ⟨hw, h⟩
  rw [hx] at hw
  rw [hs, storageAddress_eq, if_neg hw.2] at h
  split at h <;> simp at h <;> omega

/-! ### Words -/

theorem word_toNat (hi lo : Byte) : (word hi lo).toNat = hi.toNat * 256 + lo.toNat :=
  Laws.append_bytes_toNat hi lo

theorem word_bytes (v : Word) : word (highByte v) (lowByte v) = v := Laws.immediate_bytes v

@[simp] theorem lowByte_word (hi lo : Byte) : lowByte (word hi lo) = lo := Laws.immediate_low hi lo

@[simp] theorem highByte_word (hi lo : Byte) : highByte (word hi lo) = hi :=
  Laws.immediate_high hi lo

theorem State.writeWord_eq (s : State) (a : Word) (v : Word) :
    s.writeWord a v = { s with mem := (s.writeWord a v).mem } := by
  unfold State.writeWord
  rw [State.writeByte_eq, State.writeByte_eq s]

theorem State.wf_writeWord {s : State} (hm : s.mem.wf) (a : Word) (v : Word) :
    (s.writeWord a v).mem.wf :=
  State.wf_writeByte (State.wf_writeByte hm a _) _ _

/-- What any address reads as after a word write (20_memory.md R41): the high byte is written last. -/
theorem State.readByte_writeWord {s : State} (hm : s.mem.wf) (a : Word) (v : Word) (b : Word) :
    (s.writeWord a v).readByte b =
      if writable (a + 1#16) = true ∧ storageAddress b = storageAddress (a + 1#16) then highByte v
      else if writable a = true ∧ storageAddress b = storageAddress a then lowByte v
      else s.readByte b := by
  unfold State.writeWord
  rw [State.readByte_writeByte (State.wf_writeByte hm a _), State.readByte_writeByte hm]

/-- The memory after a word write depends on the memory before it alone. -/
theorem State.mem_writeWord_congr {s t : State} (h : t.mem = s.mem) (a v : Word) :
    (t.writeWord a v).mem = (s.writeWord a v).mem :=
  State.mem_writeByte_congr (State.mem_writeByte_congr h _ _) _ _

theorem State.readByte_writeWord_rom {s : State} (hm : s.mem.wf) (x v : Word) {a : Word}
    (ha : a.toNat < 0x8000) : (s.writeWord x v).readByte a = s.readByte a := by
  unfold State.writeWord
  rw [State.readByte_writeByte_rom (State.wf_writeByte hm _ _) _ _ ha,
    State.readByte_writeByte_rom hm _ _ ha]

/-- Two neighbouring bytes that are both written never share storage. -/
theorem storageAddress_succ_ne {a : Word} (h : writable a = true) (h1 : writable (a + 1#16) = true) :
    storageAddress a ≠ storageAddress (a + 1#16) := by
  have ha := a.isLt
  have hs : (a + 1#16).toNat = (a.toNat + 1) % 0x10000 := by simp [BitVec.toNat_add]
  rw [writable_iff] at h h1
  rw [storageAddress_eq, storageAddress_eq]
  simp only [if_neg h.2, if_neg h1.2]
  rw [hs] at h1 ⊢
  repeat' split
  all_goals simp only [ne_eq, Option.some.injEq]; omega

/-- A word written to two bytes that store it reads back. -/
theorem State.readWord_writeWord {s : State} (hm : s.mem.wf) {a : Word} (h : writable a = true)
    (h1 : writable (a + 1#16) = true) (v : Word) : (s.writeWord a v).readWord a = v := by
  unfold State.readWord
  rw [State.readByte_writeWord hm, State.readByte_writeWord hm]
  simp [h, h1, storageAddress_succ_ne h h1, word_bytes]

end Sys2Proof.Machine
end

