-- ==== Sys2Proof/Laws/State.lean ====
section
/-! SUPPORT. One lemma per field per update of the state, tagged simp, and the laws of the register file
and of F. No later proof unfolds an update. -/

namespace Sys2Proof.Machine

/-! ### Updates that change one part -/

@[simp] theorem State.writeByte_a (s : State) (x : Word) (v : Byte) : (s.writeByte x v).a = s.a := by rw [State.writeByte_eq]

@[simp] theorem State.writeByte_f (s : State) (x : Word) (v : Byte) : (s.writeByte x v).f = s.f := by rw [State.writeByte_eq]

@[simp] theorem State.writeByte_b (s : State) (x : Word) (v : Byte) : (s.writeByte x v).b = s.b := by rw [State.writeByte_eq]

@[simp] theorem State.writeByte_c (s : State) (x : Word) (v : Byte) : (s.writeByte x v).c = s.c := by rw [State.writeByte_eq]

@[simp] theorem State.writeByte_d (s : State) (x : Word) (v : Byte) : (s.writeByte x v).d = s.d := by rw [State.writeByte_eq]

@[simp] theorem State.writeByte_e (s : State) (x : Word) (v : Byte) : (s.writeByte x v).e = s.e := by rw [State.writeByte_eq]

@[simp] theorem State.writeByte_h (s : State) (x : Word) (v : Byte) : (s.writeByte x v).h = s.h := by rw [State.writeByte_eq]

@[simp] theorem State.writeByte_l (s : State) (x : Word) (v : Byte) : (s.writeByte x v).l = s.l := by rw [State.writeByte_eq]

@[simp] theorem State.writeByte_sp (s : State) (x : Word) (v : Byte) : (s.writeByte x v).sp = s.sp := by rw [State.writeByte_eq]

@[simp] theorem State.writeByte_pc (s : State) (x : Word) (v : Byte) : (s.writeByte x v).pc = s.pc := by rw [State.writeByte_eq]

@[simp] theorem State.writeByte_ime (s : State) (x : Word) (v : Byte) : (s.writeByte x v).ime = s.ime := by rw [State.writeByte_eq]

@[simp] theorem State.writeByte_halted (s : State) (x : Word) (v : Byte) : (s.writeByte x v).halted = s.halted := by rw [State.writeByte_eq]

@[simp] theorem State.writeByte_stopped (s : State) (x : Word) (v : Byte) : (s.writeByte x v).stopped = s.stopped := by rw [State.writeByte_eq]

@[simp] theorem State.writeByte_fatal (s : State) (x : Word) (v : Byte) : (s.writeByte x v).fatal = s.fatal := by rw [State.writeByte_eq]

@[simp] theorem State.storeRaw_a (s : State) (x : Word) (v : Byte) : (s.storeRaw x v).a = s.a := by rw [State.storeRaw_eq]

@[simp] theorem State.storeRaw_f (s : State) (x : Word) (v : Byte) : (s.storeRaw x v).f = s.f := by rw [State.storeRaw_eq]

@[simp] theorem State.storeRaw_b (s : State) (x : Word) (v : Byte) : (s.storeRaw x v).b = s.b := by rw [State.storeRaw_eq]

@[simp] theorem State.storeRaw_c (s : State) (x : Word) (v : Byte) : (s.storeRaw x v).c = s.c := by rw [State.storeRaw_eq]

@[simp] theorem State.storeRaw_d (s : State) (x : Word) (v : Byte) : (s.storeRaw x v).d = s.d := by rw [State.storeRaw_eq]

@[simp] theorem State.storeRaw_e (s : State) (x : Word) (v : Byte) : (s.storeRaw x v).e = s.e := by rw [State.storeRaw_eq]

@[simp] theorem State.storeRaw_h (s : State) (x : Word) (v : Byte) : (s.storeRaw x v).h = s.h := by rw [State.storeRaw_eq]

@[simp] theorem State.storeRaw_l (s : State) (x : Word) (v : Byte) : (s.storeRaw x v).l = s.l := by rw [State.storeRaw_eq]

@[simp] theorem State.storeRaw_sp (s : State) (x : Word) (v : Byte) : (s.storeRaw x v).sp = s.sp := by rw [State.storeRaw_eq]

@[simp] theorem State.storeRaw_pc (s : State) (x : Word) (v : Byte) : (s.storeRaw x v).pc = s.pc := by rw [State.storeRaw_eq]

@[simp] theorem State.storeRaw_ime (s : State) (x : Word) (v : Byte) : (s.storeRaw x v).ime = s.ime := by rw [State.storeRaw_eq]

@[simp] theorem State.storeRaw_halted (s : State) (x : Word) (v : Byte) : (s.storeRaw x v).halted = s.halted := by rw [State.storeRaw_eq]

@[simp] theorem State.storeRaw_stopped (s : State) (x : Word) (v : Byte) : (s.storeRaw x v).stopped = s.stopped := by rw [State.storeRaw_eq]

@[simp] theorem State.storeRaw_fatal (s : State) (x : Word) (v : Byte) : (s.storeRaw x v).fatal = s.fatal := by rw [State.storeRaw_eq]

@[simp] theorem State.writeWord_a (s : State) (x v : Word) : (s.writeWord x v).a = s.a := by rw [State.writeWord_eq]

@[simp] theorem State.writeWord_f (s : State) (x v : Word) : (s.writeWord x v).f = s.f := by rw [State.writeWord_eq]

@[simp] theorem State.writeWord_b (s : State) (x v : Word) : (s.writeWord x v).b = s.b := by rw [State.writeWord_eq]

@[simp] theorem State.writeWord_c (s : State) (x v : Word) : (s.writeWord x v).c = s.c := by rw [State.writeWord_eq]

@[simp] theorem State.writeWord_d (s : State) (x v : Word) : (s.writeWord x v).d = s.d := by rw [State.writeWord_eq]

@[simp] theorem State.writeWord_e (s : State) (x v : Word) : (s.writeWord x v).e = s.e := by rw [State.writeWord_eq]

@[simp] theorem State.writeWord_h (s : State) (x v : Word) : (s.writeWord x v).h = s.h := by rw [State.writeWord_eq]

@[simp] theorem State.writeWord_l (s : State) (x v : Word) : (s.writeWord x v).l = s.l := by rw [State.writeWord_eq]

@[simp] theorem State.writeWord_sp (s : State) (x v : Word) : (s.writeWord x v).sp = s.sp := by rw [State.writeWord_eq]

@[simp] theorem State.writeWord_pc (s : State) (x v : Word) : (s.writeWord x v).pc = s.pc := by rw [State.writeWord_eq]

@[simp] theorem State.writeWord_ime (s : State) (x v : Word) : (s.writeWord x v).ime = s.ime := by rw [State.writeWord_eq]

@[simp] theorem State.writeWord_halted (s : State) (x v : Word) : (s.writeWord x v).halted = s.halted := by rw [State.writeWord_eq]

@[simp] theorem State.writeWord_stopped (s : State) (x v : Word) : (s.writeWord x v).stopped = s.stopped := by rw [State.writeWord_eq]

@[simp] theorem State.writeWord_fatal (s : State) (x v : Word) : (s.writeWord x v).fatal = s.fatal := by rw [State.writeWord_eq]

@[simp] theorem State.setFlags_a (s : State) (z n hf cf : Bool) : (s.setFlags z n hf cf).a = s.a := rfl

@[simp] theorem State.setFlags_b (s : State) (z n hf cf : Bool) : (s.setFlags z n hf cf).b = s.b := rfl

@[simp] theorem State.setFlags_c (s : State) (z n hf cf : Bool) : (s.setFlags z n hf cf).c = s.c := rfl

@[simp] theorem State.setFlags_d (s : State) (z n hf cf : Bool) : (s.setFlags z n hf cf).d = s.d := rfl

@[simp] theorem State.setFlags_e (s : State) (z n hf cf : Bool) : (s.setFlags z n hf cf).e = s.e := rfl

@[simp] theorem State.setFlags_h (s : State) (z n hf cf : Bool) : (s.setFlags z n hf cf).h = s.h := rfl

@[simp] theorem State.setFlags_l (s : State) (z n hf cf : Bool) : (s.setFlags z n hf cf).l = s.l := rfl

@[simp] theorem State.setFlags_sp (s : State) (z n hf cf : Bool) : (s.setFlags z n hf cf).sp = s.sp := rfl

@[simp] theorem State.setFlags_pc (s : State) (z n hf cf : Bool) : (s.setFlags z n hf cf).pc = s.pc := rfl

@[simp] theorem State.setFlags_ime (s : State) (z n hf cf : Bool) : (s.setFlags z n hf cf).ime = s.ime := rfl

@[simp] theorem State.setFlags_halted (s : State) (z n hf cf : Bool) : (s.setFlags z n hf cf).halted = s.halted := rfl

@[simp] theorem State.setFlags_stopped (s : State) (z n hf cf : Bool) : (s.setFlags z n hf cf).stopped = s.stopped := rfl

@[simp] theorem State.setFlags_fatal (s : State) (z n hf cf : Bool) : (s.setFlags z n hf cf).fatal = s.fatal := rfl

@[simp] theorem State.setFlags_mem (s : State) (z n hf cf : Bool) : (s.setFlags z n hf cf).mem = s.mem := rfl

@[simp] theorem State.setBc_a (s : State) (v : Word) : (s.setBc v).a = s.a := rfl

@[simp] theorem State.setBc_f (s : State) (v : Word) : (s.setBc v).f = s.f := rfl

@[simp] theorem State.setBc_d (s : State) (v : Word) : (s.setBc v).d = s.d := rfl

@[simp] theorem State.setBc_e (s : State) (v : Word) : (s.setBc v).e = s.e := rfl

@[simp] theorem State.setBc_h (s : State) (v : Word) : (s.setBc v).h = s.h := rfl

@[simp] theorem State.setBc_l (s : State) (v : Word) : (s.setBc v).l = s.l := rfl

@[simp] theorem State.setBc_sp (s : State) (v : Word) : (s.setBc v).sp = s.sp := rfl

@[simp] theorem State.setBc_pc (s : State) (v : Word) : (s.setBc v).pc = s.pc := rfl

@[simp] theorem State.setBc_ime (s : State) (v : Word) : (s.setBc v).ime = s.ime := rfl

@[simp] theorem State.setBc_halted (s : State) (v : Word) : (s.setBc v).halted = s.halted := rfl

@[simp] theorem State.setBc_stopped (s : State) (v : Word) : (s.setBc v).stopped = s.stopped := rfl

@[simp] theorem State.setBc_fatal (s : State) (v : Word) : (s.setBc v).fatal = s.fatal := rfl

@[simp] theorem State.setBc_mem (s : State) (v : Word) : (s.setBc v).mem = s.mem := rfl

@[simp] theorem State.setDe_a (s : State) (v : Word) : (s.setDe v).a = s.a := rfl

@[simp] theorem State.setDe_f (s : State) (v : Word) : (s.setDe v).f = s.f := rfl

@[simp] theorem State.setDe_b (s : State) (v : Word) : (s.setDe v).b = s.b := rfl

@[simp] theorem State.setDe_c (s : State) (v : Word) : (s.setDe v).c = s.c := rfl

@[simp] theorem State.setDe_h (s : State) (v : Word) : (s.setDe v).h = s.h := rfl

@[simp] theorem State.setDe_l (s : State) (v : Word) : (s.setDe v).l = s.l := rfl

@[simp] theorem State.setDe_sp (s : State) (v : Word) : (s.setDe v).sp = s.sp := rfl

@[simp] theorem State.setDe_pc (s : State) (v : Word) : (s.setDe v).pc = s.pc := rfl

@[simp] theorem State.setDe_ime (s : State) (v : Word) : (s.setDe v).ime = s.ime := rfl

@[simp] theorem State.setDe_halted (s : State) (v : Word) : (s.setDe v).halted = s.halted := rfl

@[simp] theorem State.setDe_stopped (s : State) (v : Word) : (s.setDe v).stopped = s.stopped := rfl

@[simp] theorem State.setDe_fatal (s : State) (v : Word) : (s.setDe v).fatal = s.fatal := rfl

@[simp] theorem State.setDe_mem (s : State) (v : Word) : (s.setDe v).mem = s.mem := rfl

@[simp] theorem State.setHl_a (s : State) (v : Word) : (s.setHl v).a = s.a := rfl

@[simp] theorem State.setHl_f (s : State) (v : Word) : (s.setHl v).f = s.f := rfl

@[simp] theorem State.setHl_b (s : State) (v : Word) : (s.setHl v).b = s.b := rfl

@[simp] theorem State.setHl_c (s : State) (v : Word) : (s.setHl v).c = s.c := rfl

@[simp] theorem State.setHl_d (s : State) (v : Word) : (s.setHl v).d = s.d := rfl

@[simp] theorem State.setHl_e (s : State) (v : Word) : (s.setHl v).e = s.e := rfl

@[simp] theorem State.setHl_sp (s : State) (v : Word) : (s.setHl v).sp = s.sp := rfl

@[simp] theorem State.setHl_pc (s : State) (v : Word) : (s.setHl v).pc = s.pc := rfl

@[simp] theorem State.setHl_ime (s : State) (v : Word) : (s.setHl v).ime = s.ime := rfl

@[simp] theorem State.setHl_halted (s : State) (v : Word) : (s.setHl v).halted = s.halted := rfl

@[simp] theorem State.setHl_stopped (s : State) (v : Word) : (s.setHl v).stopped = s.stopped := rfl

@[simp] theorem State.setHl_fatal (s : State) (v : Word) : (s.setHl v).fatal = s.fatal := rfl

@[simp] theorem State.setHl_mem (s : State) (v : Word) : (s.setHl v).mem = s.mem := rfl

@[simp] theorem State.setAf_b (s : State) (v : Word) : (s.setAf v).b = s.b := rfl

@[simp] theorem State.setAf_c (s : State) (v : Word) : (s.setAf v).c = s.c := rfl

@[simp] theorem State.setAf_d (s : State) (v : Word) : (s.setAf v).d = s.d := rfl

@[simp] theorem State.setAf_e (s : State) (v : Word) : (s.setAf v).e = s.e := rfl

@[simp] theorem State.setAf_h (s : State) (v : Word) : (s.setAf v).h = s.h := rfl

@[simp] theorem State.setAf_l (s : State) (v : Word) : (s.setAf v).l = s.l := rfl

@[simp] theorem State.setAf_sp (s : State) (v : Word) : (s.setAf v).sp = s.sp := rfl

@[simp] theorem State.setAf_pc (s : State) (v : Word) : (s.setAf v).pc = s.pc := rfl

@[simp] theorem State.setAf_ime (s : State) (v : Word) : (s.setAf v).ime = s.ime := rfl

@[simp] theorem State.setAf_halted (s : State) (v : Word) : (s.setAf v).halted = s.halted := rfl

@[simp] theorem State.setAf_stopped (s : State) (v : Word) : (s.setAf v).stopped = s.stopped := rfl

@[simp] theorem State.setAf_fatal (s : State) (v : Word) : (s.setAf v).fatal = s.fatal := rfl

@[simp] theorem State.setAf_mem (s : State) (v : Word) : (s.setAf v).mem = s.mem := rfl

@[simp] theorem State.writeR8_f (s : State) (r : R8) (v : Byte) : (s.writeR8 r v).f = s.f := by cases r <;> rfl

@[simp] theorem State.writeR8_sp (s : State) (r : R8) (v : Byte) : (s.writeR8 r v).sp = s.sp := by cases r <;> rfl

@[simp] theorem State.writeR8_pc (s : State) (r : R8) (v : Byte) : (s.writeR8 r v).pc = s.pc := by cases r <;> rfl

@[simp] theorem State.writeR8_ime (s : State) (r : R8) (v : Byte) : (s.writeR8 r v).ime = s.ime := by cases r <;> rfl

@[simp] theorem State.writeR8_halted (s : State) (r : R8) (v : Byte) : (s.writeR8 r v).halted = s.halted := by cases r <;> rfl

@[simp] theorem State.writeR8_stopped (s : State) (r : R8) (v : Byte) : (s.writeR8 r v).stopped = s.stopped := by cases r <;> rfl

@[simp] theorem State.writeR8_fatal (s : State) (r : R8) (v : Byte) : (s.writeR8 r v).fatal = s.fatal := by cases r <;> rfl

@[simp] theorem State.writeR8_mem (s : State) (r : R8) (v : Byte) : (s.writeR8 r v).mem = s.mem := by cases r <;> rfl

@[simp] theorem State.writeRp_a (s : State) (p : Rp) (v : Word) : (s.writeRp p v).a = s.a := by cases p <;> rfl

@[simp] theorem State.writeRp_f (s : State) (p : Rp) (v : Word) : (s.writeRp p v).f = s.f := by cases p <;> rfl

@[simp] theorem State.writeRp_pc (s : State) (p : Rp) (v : Word) : (s.writeRp p v).pc = s.pc := by cases p <;> rfl

@[simp] theorem State.writeRp_ime (s : State) (p : Rp) (v : Word) : (s.writeRp p v).ime = s.ime := by cases p <;> rfl

@[simp] theorem State.writeRp_halted (s : State) (p : Rp) (v : Word) : (s.writeRp p v).halted = s.halted := by cases p <;> rfl

@[simp] theorem State.writeRp_stopped (s : State) (p : Rp) (v : Word) : (s.writeRp p v).stopped = s.stopped := by cases p <;> rfl

@[simp] theorem State.writeRp_fatal (s : State) (p : Rp) (v : Word) : (s.writeRp p v).fatal = s.fatal := by cases p <;> rfl

@[simp] theorem State.writeRp_mem (s : State) (p : Rp) (v : Word) : (s.writeRp p v).mem = s.mem := by cases p <;> rfl

@[simp] theorem State.push16_a (s : State) (v : Word) : (s.push16 v).a = s.a := by simp [State.push16]

@[simp] theorem State.push16_f (s : State) (v : Word) : (s.push16 v).f = s.f := by simp [State.push16]

@[simp] theorem State.push16_b (s : State) (v : Word) : (s.push16 v).b = s.b := by simp [State.push16]

@[simp] theorem State.push16_c (s : State) (v : Word) : (s.push16 v).c = s.c := by simp [State.push16]

@[simp] theorem State.push16_d (s : State) (v : Word) : (s.push16 v).d = s.d := by simp [State.push16]

@[simp] theorem State.push16_e (s : State) (v : Word) : (s.push16 v).e = s.e := by simp [State.push16]

@[simp] theorem State.push16_h (s : State) (v : Word) : (s.push16 v).h = s.h := by simp [State.push16]

@[simp] theorem State.push16_l (s : State) (v : Word) : (s.push16 v).l = s.l := by simp [State.push16]

@[simp] theorem State.push16_pc (s : State) (v : Word) : (s.push16 v).pc = s.pc := by simp [State.push16]

@[simp] theorem State.push16_ime (s : State) (v : Word) : (s.push16 v).ime = s.ime := by simp [State.push16]

@[simp] theorem State.push16_halted (s : State) (v : Word) : (s.push16 v).halted = s.halted := by simp [State.push16]

@[simp] theorem State.push16_stopped (s : State) (v : Word) : (s.push16 v).stopped = s.stopped := by simp [State.push16]

@[simp] theorem State.push16_fatal (s : State) (v : Word) : (s.push16 v).fatal = s.fatal := by simp [State.push16]

/-! ### The register file -/

theorem State.readR8_writeR8 (s : State) (r x : R8) (v : Byte) :
    (s.writeR8 r v).readR8 x = if x = r then v else s.readR8 x := by
  cases r <;> cases x <;> rfl

@[simp] theorem State.readR8_writeByte (s : State) (a : Word) (v : Byte) (x : R8) :
    (s.writeByte a v).readR8 x = s.readR8 x := by
  cases x <;> simp [State.readR8]

@[simp] theorem State.readR8_writeWord (s : State) (a v : Word) (x : R8) :
    (s.writeWord a v).readR8 x = s.readR8 x := by
  cases x <;> simp [State.readR8]

@[simp] theorem State.readR8_setFlags (s : State) (z n h c : Bool) (x : R8) :
    (s.setFlags z n h c).readR8 x = s.readR8 x := by
  cases x <;> rfl

@[simp] theorem State.readR8_push16 (s : State) (v : Word) (x : R8) :
    (s.push16 v).readR8 x = s.readR8 x := by
  cases x <;> simp [State.readR8]

theorem State.readRp_writeRp (s : State) (p q : Rp) (v : Word) :
    (s.writeRp p v).readRp q = if q = p then v else s.readRp q := by
  cases p <;> cases q <;>
    simp [State.writeRp, State.readRp, State.setBc, State.setDe, State.setHl, State.bc, State.de,
      State.hl, word_bytes]

theorem State.readRp2_writeRp2 (s : State) (p q : Rp2) (v : Word) :
    (s.writeRp2 p v).readRp2 q = if q = p then v else s.readRp2 q := by
  cases p <;> cases q <;>
    simp [State.writeRp2, State.readRp2, State.setBc, State.setDe, State.setHl, State.setAf, State.bc,
      State.de, State.hl, State.af, word_bytes]

@[simp] theorem State.sp_push16 (s : State) (v : Word) : (s.push16 v).sp = s.sp - 2#16 := by
  simp [State.push16]

/-! ### Reads of memory -/

@[simp] theorem State.readByte_setFlags (s : State) (z n h c : Bool) (a : Word) :
    (s.setFlags z n h c).readByte a = s.readByte a := rfl

@[simp] theorem State.readByte_writeR8 (s : State) (r : R8) (v : Byte) (a : Word) :
    (s.writeR8 r v).readByte a = s.readByte a :=
  State.readByte_congr (by simp) a

@[simp] theorem State.readByte_writeRp (s : State) (p : Rp) (v : Word) (a : Word) :
    (s.writeRp p v).readByte a = s.readByte a :=
  State.readByte_congr (by simp) a

/-! ### F -/

theorem packFlags_bits (z n h c : Bool) (old : Byte) :
    (packFlags z n h c old).getLsbD 7 = z ∧ (packFlags z n h c old).getLsbD 6 = n ∧
      (packFlags z n h c old).getLsbD 5 = h ∧ (packFlags z n h c old).getLsbD 4 = c := by
  cases z <;> cases n <;> cases h <;> cases c <;> simp [packFlags, bitAt]

theorem packFlags_low (z n h c : Bool) (old : Byte) :
    (packFlags z n h c old).extractLsb' 0 4 = old.extractLsb' 0 4 := by
  apply BitVec.eq_of_getLsbD_eq
  intro i hi
  have : i = 0 ∨ i = 1 ∨ i = 2 ∨ i = 3 := by omega
  rcases this with rfl | rfl | rfl | rfl <;>
    cases z <;> cases n <;> cases h <;> cases c <;> simp [packFlags, bitAt]

@[simp] theorem State.flagZ_setFlags (s : State) (z n h c : Bool) :
    (s.setFlags z n h c).flagZ = z := (packFlags_bits z n h c s.f).1

@[simp] theorem State.flagN_setFlags (s : State) (z n h c : Bool) :
    (s.setFlags z n h c).flagN = n := (packFlags_bits z n h c s.f).2.1

@[simp] theorem State.flagH_setFlags (s : State) (z n h c : Bool) :
    (s.setFlags z n h c).flagH = h := (packFlags_bits z n h c s.f).2.2.1

@[simp] theorem State.flagC_setFlags (s : State) (z n h c : Bool) :
    (s.setFlags z n h c).flagC = c := (packFlags_bits z n h c s.f).2.2.2

@[simp] theorem State.low_setFlags (s : State) (z n h c : Bool) :
    (s.setFlags z n h c).f.extractLsb' 0 4 = s.f.extractLsb' 0 4 := packFlags_low z n h c s.f

/-- POP AF's mask leaves F with a zero low nibble (47_stack_sp.md R252). -/
theorem lowByte_masked_low (v : Word) : (lowByte (v &&& 0xFFF0#16)).extractLsb' 0 4 = 0#4 := by
  apply BitVec.eq_of_getLsbD_eq
  intro i hi
  have : i = 0 ∨ i = 1 ∨ i = 2 ∨ i = 3 := by omega
  rcases this with rfl | rfl | rfl | rfl <;> simp [lowByte]

end Sys2Proof.Machine
end

