-- ==== Sys2Proof/Laws/Effect.lean ====
section
/-! SUPPORT. What an instruction can do, said once: `exec_effect` names the effect of each of the 512
constructors, so that a rule about all instructions is a case analysis over some twenty effects. -/

namespace Sys2Proof.Machine

/-- The effects that leave IME, halted, stopped and fatal alone. -/
inductive PlainEffect : State → State → Prop where
  | same (s : State) : PlainEffect s s
  | operand (s : State) (o : Operand8) (v : Byte) : PlainEffect s (s.writeOperand o v)
  | operandFlags (s : State) (o : Operand8) (v : Byte) (z n h c : Bool) :
      PlainEffect s ((s.writeOperand o v).setFlags z n h c)
  | flags (s : State) (z n h c : Bool) : PlainEffect s (s.setFlags z n h c)
  | storeByte (s : State) (a : Word) (v : Byte) : PlainEffect s (s.writeByte a v)
  | storeAdjust (s : State) (a : Word) (v : Byte) (w : Word) :
      PlainEffect s ((s.writeByte a v).setHl w)
  | loadAdjust (s : State) (v : Byte) (w : Word) : PlainEffect s (State.setHl { s with a := v } w)
  | pair (s : State) (p : Rp) (v : Word) : PlainEffect s (s.writeRp p v)
  | pairFlags (s : State) (p : Rp) (v : Word) (z n h c : Bool) :
      PlainEffect s ((s.writeRp p v).setFlags z n h c)
  | storeWord (s : State) (a v : Word) : PlainEffect s (s.writeWord a v)
  | jump (s : State) (target : Word) : PlainEffect s { s with pc := target }
  | push (s : State) (v : Word) : PlainEffect s (s.push16 v)
  | call (s : State) (target : Word) : PlainEffect s (s.callTo target)
  | ret (s : State) : PlainEffect s s.returnFrom
  | pop (s : State) (p : Rp2) (hp : p ≠ .af) (v : Word) :
      PlainEffect s (State.writeRp2 { s with sp := s.sp + 2#16 } p v)
  | popAf (s : State) (v : Word) :
      PlainEffect s (State.setAf { s with sp := s.sp + 2#16 } (v &&& 0xFFF0#16))
  | afterFetch (s : State) (pc : Word) {t : State} :
      PlainEffect { s with pc := pc } t → PlainEffect s t

/-- The illegal instructions with their opcodes (30_encoding.md R78). -/
def illegalTable : List (Instr × Byte) :=
  [(.illegalD3, 0xD3#8), (.illegalDB, 0xDB#8), (.illegalDD, 0xDD#8), (.illegalE3, 0xE3#8),
   (.illegalE4, 0xE4#8), (.illegalEB, 0xEB#8), (.illegalEC, 0xEC#8), (.illegalED, 0xED#8),
   (.illegalF4, 0xF4#8), (.illegalFC, 0xFC#8), (.illegalFD, 0xFD#8)]

/-- The effect of an instruction: plain, or the one change of status that is its own. -/
inductive Effect : Instr → State → State → Prop where
  | plain {i : Instr} {s t : State} : PlainEffect s t → Effect i s t
  | halt (s : State) : Effect .halt s { s with halted := true }
  | stop (s : State) (n : Nat) : Effect .stop s (s.stopWith n)
  | di (s : State) : Effect .di s { s with ime := false }
  | ei (s : State) : Effect .ei s { s with ime := true }
  | reti (s : State) : Effect .reti s s.returnFromInterrupt
  | fatal (s : State) (i : Instr) (op : Byte) :
      (i, op) ∈ illegalTable → Effect i s (s.raiseFatal op)

theorem PlainEffect.transferIf {s taken : State} (cc : Cond) (h : PlainEffect s taken) :
    PlainEffect s (s.transferIf cc taken) := by
  unfold State.transferIf
  split
  · exact h
  · exact .same s

theorem PlainEffect.alu (s : State) (op : AluOp) (v : Byte) : PlainEffect s (s.alu op v) := by
  cases op <;> exact .operandFlags s (.reg .a) _ _ _ _ _

theorem PlainEffect.executeCb (s : State) (op2 : Byte) : PlainEffect s (s.executeCb op2) := by
  unfold State.executeCb
  split
  · exact .operandFlags _ _ _ _ _ _ _
  · exact .flags _ _ _ _ _
  · exact .operand _ _ _
  · exact .operand _ _ _

/-- Every instruction answers a next state, by one of the effects. -/
theorem exec_effect (i : Instr) (s : State) : ∃ t, exec i s = .next t ∧ Effect i s t := by
  cases i with
  | nop => exact ⟨_, rfl, .plain (.same _)⟩
  | ldBcN16 n16 => exact ⟨_, rfl, .plain (.pair _ .bc _)⟩
  | ldMemBcA => exact ⟨_, rfl, .plain (.storeByte _ _ _)⟩
  | incBc => exact ⟨_, rfl, .plain (.pair _ .bc _)⟩
  | incB => exact ⟨_, rfl, .plain (.operandFlags _ (.reg .b) _ _ _ _ _)⟩
  | decB => exact ⟨_, rfl, .plain (.operandFlags _ (.reg .b) _ _ _ _ _)⟩
  | ldBN8 n8 => exact ⟨_, rfl, .plain (.operand _ (.reg .b) _)⟩
  | rlca => exact ⟨_, rfl, .plain (.operandFlags _ (.reg .a) _ _ _ _ _)⟩
  | ldMemA16Sp a16 => exact ⟨_, rfl, .plain (.storeWord _ _ _)⟩
  | addHlBc => exact ⟨_, rfl, .plain (.pairFlags _ .hl _ _ _ _ _)⟩
  | ldAMemBc => exact ⟨_, rfl, .plain (.operand _ (.reg .a) _)⟩
  | decBc => exact ⟨_, rfl, .plain (.pair _ .bc _)⟩
  | incC => exact ⟨_, rfl, .plain (.operandFlags _ (.reg .c) _ _ _ _ _)⟩
  | decC => exact ⟨_, rfl, .plain (.operandFlags _ (.reg .c) _ _ _ _ _)⟩
  | ldCN8 n8 => exact ⟨_, rfl, .plain (.operand _ (.reg .c) _)⟩
  | rrca => exact ⟨_, rfl, .plain (.operandFlags _ (.reg .a) _ _ _ _ _)⟩
  | stop => exact ⟨_, rfl, .stop _ _⟩
  | ldDeN16 n16 => exact ⟨_, rfl, .plain (.pair _ .de _)⟩
  | ldMemDeA => exact ⟨_, rfl, .plain (.storeByte _ _ _)⟩
  | incDe => exact ⟨_, rfl, .plain (.pair _ .de _)⟩
  | incD => exact ⟨_, rfl, .plain (.operandFlags _ (.reg .d) _ _ _ _ _)⟩
  | decD => exact ⟨_, rfl, .plain (.operandFlags _ (.reg .d) _ _ _ _ _)⟩
  | ldDN8 n8 => exact ⟨_, rfl, .plain (.operand _ (.reg .d) _)⟩
  | rla => exact ⟨_, rfl, .plain (.operandFlags _ (.reg .a) _ _ _ _ _)⟩
  | jrE8 e8 => exact ⟨_, rfl, .plain (.jump _ _)⟩
  | addHlDe => exact ⟨_, rfl, .plain (.pairFlags _ .hl _ _ _ _ _)⟩
  | ldAMemDe => exact ⟨_, rfl, .plain (.operand _ (.reg .a) _)⟩
  | decDe => exact ⟨_, rfl, .plain (.pair _ .de _)⟩
  | incE => exact ⟨_, rfl, .plain (.operandFlags _ (.reg .e) _ _ _ _ _)⟩
  | decE => exact ⟨_, rfl, .plain (.operandFlags _ (.reg .e) _ _ _ _ _)⟩
  | ldEN8 n8 => exact ⟨_, rfl, .plain (.operand _ (.reg .e) _)⟩
  | rra => exact ⟨_, rfl, .plain (.operandFlags _ (.reg .a) _ _ _ _ _)⟩
  | jrNzE8 e8 => exact ⟨_, rfl, .plain (.transferIf _ (.jump _ _))⟩
  | ldHlN16 n16 => exact ⟨_, rfl, .plain (.pair _ .hl _)⟩
  | ldMemHlIncA => exact ⟨_, rfl, .plain (.storeAdjust _ _ _ _)⟩
  | incHl => exact ⟨_, rfl, .plain (.pair _ .hl _)⟩
  | incH => exact ⟨_, rfl, .plain (.operandFlags _ (.reg .h) _ _ _ _ _)⟩
  | decH => exact ⟨_, rfl, .plain (.operandFlags _ (.reg .h) _ _ _ _ _)⟩
  | ldHN8 n8 => exact ⟨_, rfl, .plain (.operand _ (.reg .h) _)⟩
  | daa => exact ⟨_, rfl, .plain (.operandFlags _ (.reg .a) _ _ _ _ _)⟩
  | jrZE8 e8 => exact ⟨_, rfl, .plain (.transferIf _ (.jump _ _))⟩
  | addHlHl => exact ⟨_, rfl, .plain (.pairFlags _ .hl _ _ _ _ _)⟩
  | ldAMemHlInc => exact ⟨_, rfl, .plain (.loadAdjust _ _ _)⟩
  | decHl => exact ⟨_, rfl, .plain (.pair _ .hl _)⟩
  | incL => exact ⟨_, rfl, .plain (.operandFlags _ (.reg .l) _ _ _ _ _)⟩
  | decL => exact ⟨_, rfl, .plain (.operandFlags _ (.reg .l) _ _ _ _ _)⟩
  | ldLN8 n8 => exact ⟨_, rfl, .plain (.operand _ (.reg .l) _)⟩
  | cpl => exact ⟨_, rfl, .plain (.operandFlags _ (.reg .a) _ _ _ _ _)⟩
  | jrNcE8 e8 => exact ⟨_, rfl, .plain (.transferIf _ (.jump _ _))⟩
  | ldSpN16 n16 => exact ⟨_, rfl, .plain (.pair _ .sp _)⟩
  | ldMemHlDecA => exact ⟨_, rfl, .plain (.storeAdjust _ _ _ _)⟩
  | incSp => exact ⟨_, rfl, .plain (.pair _ .sp _)⟩
  | incMemHl => exact ⟨_, rfl, .plain (.operandFlags _ .memHl _ _ _ _ _)⟩
  | decMemHl => exact ⟨_, rfl, .plain (.operandFlags _ .memHl _ _ _ _ _)⟩
  | ldMemHlN8 n8 => exact ⟨_, rfl, .plain (.storeByte _ _ _)⟩
  | scf => exact ⟨_, rfl, .plain (.flags _ _ _ _ _)⟩
  | jrCE8 e8 => exact ⟨_, rfl, .plain (.transferIf _ (.jump _ _))⟩
  | addHlSp => exact ⟨_, rfl, .plain (.pairFlags _ .hl _ _ _ _ _)⟩
  | ldAMemHlDec => exact ⟨_, rfl, .plain (.loadAdjust _ _ _)⟩
  | decSp => exact ⟨_, rfl, .plain (.pair _ .sp _)⟩
  | incA => exact ⟨_, rfl, .plain (.operandFlags _ (.reg .a) _ _ _ _ _)⟩
  | decA => exact ⟨_, rfl, .plain (.operandFlags _ (.reg .a) _ _ _ _ _)⟩
  | ldAN8 n8 => exact ⟨_, rfl, .plain (.operand _ (.reg .a) _)⟩
  | ccf => exact ⟨_, rfl, .plain (.flags _ _ _ _ _)⟩
  | ldBB => exact ⟨_, rfl, .plain (.operand _ (.reg .b) _)⟩
  | ldBC => exact ⟨_, rfl, .plain (.operand _ (.reg .b) _)⟩
  | ldBD => exact ⟨_, rfl, .plain (.operand _ (.reg .b) _)⟩
  | ldBE => exact ⟨_, rfl, .plain (.operand _ (.reg .b) _)⟩
  | ldBH => exact ⟨_, rfl, .plain (.operand _ (.reg .b) _)⟩
  | ldBL => exact ⟨_, rfl, .plain (.operand _ (.reg .b) _)⟩
  | ldBMemHl => exact ⟨_, rfl, .plain (.operand _ (.reg .b) _)⟩
  | ldBA => exact ⟨_, rfl, .plain (.operand _ (.reg .b) _)⟩
  | ldCB => exact ⟨_, rfl, .plain (.operand _ (.reg .c) _)⟩
  | ldCC => exact ⟨_, rfl, .plain (.operand _ (.reg .c) _)⟩
  | ldCD => exact ⟨_, rfl, .plain (.operand _ (.reg .c) _)⟩
  | ldCE => exact ⟨_, rfl, .plain (.operand _ (.reg .c) _)⟩
  | ldCH => exact ⟨_, rfl, .plain (.operand _ (.reg .c) _)⟩
  | ldCL => exact ⟨_, rfl, .plain (.operand _ (.reg .c) _)⟩
  | ldCMemHl => exact ⟨_, rfl, .plain (.operand _ (.reg .c) _)⟩
  | ldCA => exact ⟨_, rfl, .plain (.operand _ (.reg .c) _)⟩
  | ldDB => exact ⟨_, rfl, .plain (.operand _ (.reg .d) _)⟩
  | ldDC => exact ⟨_, rfl, .plain (.operand _ (.reg .d) _)⟩
  | ldDD => exact ⟨_, rfl, .plain (.operand _ (.reg .d) _)⟩
  | ldDE => exact ⟨_, rfl, .plain (.operand _ (.reg .d) _)⟩
  | ldDH => exact ⟨_, rfl, .plain (.operand _ (.reg .d) _)⟩
  | ldDL => exact ⟨_, rfl, .plain (.operand _ (.reg .d) _)⟩
  | ldDMemHl => exact ⟨_, rfl, .plain (.operand _ (.reg .d) _)⟩
  | ldDA => exact ⟨_, rfl, .plain (.operand _ (.reg .d) _)⟩
  | ldEB => exact ⟨_, rfl, .plain (.operand _ (.reg .e) _)⟩
  | ldEC => exact ⟨_, rfl, .plain (.operand _ (.reg .e) _)⟩
  | ldED => exact ⟨_, rfl, .plain (.operand _ (.reg .e) _)⟩
  | ldEE => exact ⟨_, rfl, .plain (.operand _ (.reg .e) _)⟩
  | ldEH => exact ⟨_, rfl, .plain (.operand _ (.reg .e) _)⟩
  | ldEL => exact ⟨_, rfl, .plain (.operand _ (.reg .e) _)⟩
  | ldEMemHl => exact ⟨_, rfl, .plain (.operand _ (.reg .e) _)⟩
  | ldEA => exact ⟨_, rfl, .plain (.operand _ (.reg .e) _)⟩
  | ldHB => exact ⟨_, rfl, .plain (.operand _ (.reg .h) _)⟩
  | ldHC => exact ⟨_, rfl, .plain (.operand _ (.reg .h) _)⟩
  | ldHD => exact ⟨_, rfl, .plain (.operand _ (.reg .h) _)⟩
  | ldHE => exact ⟨_, rfl, .plain (.operand _ (.reg .h) _)⟩
  | ldHH => exact ⟨_, rfl, .plain (.operand _ (.reg .h) _)⟩
  | ldHL => exact ⟨_, rfl, .plain (.operand _ (.reg .h) _)⟩
  | ldHMemHl => exact ⟨_, rfl, .plain (.operand _ (.reg .h) _)⟩
  | ldHA => exact ⟨_, rfl, .plain (.operand _ (.reg .h) _)⟩
  | ldLB => exact ⟨_, rfl, .plain (.operand _ (.reg .l) _)⟩
  | ldLC => exact ⟨_, rfl, .plain (.operand _ (.reg .l) _)⟩
  | ldLD => exact ⟨_, rfl, .plain (.operand _ (.reg .l) _)⟩
  | ldLE => exact ⟨_, rfl, .plain (.operand _ (.reg .l) _)⟩
  | ldLH => exact ⟨_, rfl, .plain (.operand _ (.reg .l) _)⟩
  | ldLL => exact ⟨_, rfl, .plain (.operand _ (.reg .l) _)⟩
  | ldLMemHl => exact ⟨_, rfl, .plain (.operand _ (.reg .l) _)⟩
  | ldLA => exact ⟨_, rfl, .plain (.operand _ (.reg .l) _)⟩
  | ldMemHlB => exact ⟨_, rfl, .plain (.storeByte _ _ _)⟩
  | ldMemHlC => exact ⟨_, rfl, .plain (.storeByte _ _ _)⟩
  | ldMemHlD => exact ⟨_, rfl, .plain (.storeByte _ _ _)⟩
  | ldMemHlE => exact ⟨_, rfl, .plain (.storeByte _ _ _)⟩
  | ldMemHlH => exact ⟨_, rfl, .plain (.storeByte _ _ _)⟩
  | ldMemHlL => exact ⟨_, rfl, .plain (.storeByte _ _ _)⟩
  | halt => exact ⟨_, rfl, .halt _⟩
  | ldMemHlA => exact ⟨_, rfl, .plain (.storeByte _ _ _)⟩
  | ldAB => exact ⟨_, rfl, .plain (.operand _ (.reg .a) _)⟩
  | ldAC => exact ⟨_, rfl, .plain (.operand _ (.reg .a) _)⟩
  | ldAD => exact ⟨_, rfl, .plain (.operand _ (.reg .a) _)⟩
  | ldAE => exact ⟨_, rfl, .plain (.operand _ (.reg .a) _)⟩
  | ldAH => exact ⟨_, rfl, .plain (.operand _ (.reg .a) _)⟩
  | ldAL => exact ⟨_, rfl, .plain (.operand _ (.reg .a) _)⟩
  | ldAMemHl => exact ⟨_, rfl, .plain (.operand _ (.reg .a) _)⟩
  | ldAA => exact ⟨_, rfl, .plain (.operand _ (.reg .a) _)⟩
  | addAB => exact ⟨_, rfl, .plain (.alu _ _ _)⟩
  | addAC => exact ⟨_, rfl, .plain (.alu _ _ _)⟩
  | addAD => exact ⟨_, rfl, .plain (.alu _ _ _)⟩
  | addAE => exact ⟨_, rfl, .plain (.alu _ _ _)⟩
  | addAH => exact ⟨_, rfl, .plain (.alu _ _ _)⟩
  | addAL => exact ⟨_, rfl, .plain (.alu _ _ _)⟩
  | addAMemHl => exact ⟨_, rfl, .plain (.alu _ _ _)⟩
  | addAA => exact ⟨_, rfl, .plain (.alu _ _ _)⟩
  | adcAB => exact ⟨_, rfl, .plain (.alu _ _ _)⟩
  | adcAC => exact ⟨_, rfl, .plain (.alu _ _ _)⟩
  | adcAD => exact ⟨_, rfl, .plain (.alu _ _ _)⟩
  | adcAE => exact ⟨_, rfl, .plain (.alu _ _ _)⟩
  | adcAH => exact ⟨_, rfl, .plain (.alu _ _ _)⟩
  | adcAL => exact ⟨_, rfl, .plain (.alu _ _ _)⟩
  | adcAMemHl => exact ⟨_, rfl, .plain (.alu _ _ _)⟩
  | adcAA => exact ⟨_, rfl, .plain (.alu _ _ _)⟩
  | subB => exact ⟨_, rfl, .plain (.alu _ _ _)⟩
  | subC => exact ⟨_, rfl, .plain (.alu _ _ _)⟩
  | subD => exact ⟨_, rfl, .plain (.alu _ _ _)⟩
  | subE => exact ⟨_, rfl, .plain (.alu _ _ _)⟩
  | subH => exact ⟨_, rfl, .plain (.alu _ _ _)⟩
  | subL => exact ⟨_, rfl, .plain (.alu _ _ _)⟩
  | subMemHl => exact ⟨_, rfl, .plain (.alu _ _ _)⟩
  | subA => exact ⟨_, rfl, .plain (.alu _ _ _)⟩
  | sbcAB => exact ⟨_, rfl, .plain (.alu _ _ _)⟩
  | sbcAC => exact ⟨_, rfl, .plain (.alu _ _ _)⟩
  | sbcAD => exact ⟨_, rfl, .plain (.alu _ _ _)⟩
  | sbcAE => exact ⟨_, rfl, .plain (.alu _ _ _)⟩
  | sbcAH => exact ⟨_, rfl, .plain (.alu _ _ _)⟩
  | sbcAL => exact ⟨_, rfl, .plain (.alu _ _ _)⟩
  | sbcAMemHl => exact ⟨_, rfl, .plain (.alu _ _ _)⟩
  | sbcAA => exact ⟨_, rfl, .plain (.alu _ _ _)⟩
  | andB => exact ⟨_, rfl, .plain (.alu _ _ _)⟩
  | andC => exact ⟨_, rfl, .plain (.alu _ _ _)⟩
  | andD => exact ⟨_, rfl, .plain (.alu _ _ _)⟩
  | andE => exact ⟨_, rfl, .plain (.alu _ _ _)⟩
  | andH => exact ⟨_, rfl, .plain (.alu _ _ _)⟩
  | andL => exact ⟨_, rfl, .plain (.alu _ _ _)⟩
  | andMemHl => exact ⟨_, rfl, .plain (.alu _ _ _)⟩
  | andA => exact ⟨_, rfl, .plain (.alu _ _ _)⟩
  | xorB => exact ⟨_, rfl, .plain (.alu _ _ _)⟩
  | xorC => exact ⟨_, rfl, .plain (.alu _ _ _)⟩
  | xorD => exact ⟨_, rfl, .plain (.alu _ _ _)⟩
  | xorE => exact ⟨_, rfl, .plain (.alu _ _ _)⟩
  | xorH => exact ⟨_, rfl, .plain (.alu _ _ _)⟩
  | xorL => exact ⟨_, rfl, .plain (.alu _ _ _)⟩
  | xorMemHl => exact ⟨_, rfl, .plain (.alu _ _ _)⟩
  | xorA => exact ⟨_, rfl, .plain (.alu _ _ _)⟩
  | orB => exact ⟨_, rfl, .plain (.alu _ _ _)⟩
  | orC => exact ⟨_, rfl, .plain (.alu _ _ _)⟩
  | orD => exact ⟨_, rfl, .plain (.alu _ _ _)⟩
  | orE => exact ⟨_, rfl, .plain (.alu _ _ _)⟩
  | orH => exact ⟨_, rfl, .plain (.alu _ _ _)⟩
  | orL => exact ⟨_, rfl, .plain (.alu _ _ _)⟩
  | orMemHl => exact ⟨_, rfl, .plain (.alu _ _ _)⟩
  | orA => exact ⟨_, rfl, .plain (.alu _ _ _)⟩
  | cpB => exact ⟨_, rfl, .plain (.alu _ _ _)⟩
  | cpC => exact ⟨_, rfl, .plain (.alu _ _ _)⟩
  | cpD => exact ⟨_, rfl, .plain (.alu _ _ _)⟩
  | cpE => exact ⟨_, rfl, .plain (.alu _ _ _)⟩
  | cpH => exact ⟨_, rfl, .plain (.alu _ _ _)⟩
  | cpL => exact ⟨_, rfl, .plain (.alu _ _ _)⟩
  | cpMemHl => exact ⟨_, rfl, .plain (.alu _ _ _)⟩
  | cpA => exact ⟨_, rfl, .plain (.alu _ _ _)⟩
  | retNz => exact ⟨_, rfl, .plain (.transferIf _ (.ret _))⟩
  | popBc => exact ⟨_, rfl, .plain (.pop _ _ (by decide) _)⟩
  | jpNzA16 a16 => exact ⟨_, rfl, .plain (.transferIf _ (.jump _ _))⟩
  | jpA16 a16 => exact ⟨_, rfl, .plain (.jump _ _)⟩
  | callNzA16 a16 => exact ⟨_, rfl, .plain (.transferIf _ (.call _ _))⟩
  | pushBc => exact ⟨_, rfl, .plain (.push _ _)⟩
  | addAN8 n8 => exact ⟨_, rfl, .plain (.alu _ _ _)⟩
  | rst00 => exact ⟨_, rfl, .plain (.call _ _)⟩
  | retZ => exact ⟨_, rfl, .plain (.transferIf _ (.ret _))⟩
  | ret => exact ⟨_, rfl, .plain (.ret _)⟩
  | jpZA16 a16 => exact ⟨_, rfl, .plain (.transferIf _ (.jump _ _))⟩
  | prefixCb => exact ⟨_, rfl, .plain (.afterFetch _ _ (.executeCb _ _))⟩
  | callZA16 a16 => exact ⟨_, rfl, .plain (.transferIf _ (.call _ _))⟩
  | callA16 a16 => exact ⟨_, rfl, .plain (.call _ _)⟩
  | adcAN8 n8 => exact ⟨_, rfl, .plain (.alu _ _ _)⟩
  | rst08 => exact ⟨_, rfl, .plain (.call _ _)⟩
  | retNc => exact ⟨_, rfl, .plain (.transferIf _ (.ret _))⟩
  | popDe => exact ⟨_, rfl, .plain (.pop _ _ (by decide) _)⟩
  | jpNcA16 a16 => exact ⟨_, rfl, .plain (.transferIf _ (.jump _ _))⟩
  | illegalD3 => exact ⟨_, rfl, .fatal _ _ _ (by decide)⟩
  | callNcA16 a16 => exact ⟨_, rfl, .plain (.transferIf _ (.call _ _))⟩
  | pushDe => exact ⟨_, rfl, .plain (.push _ _)⟩
  | subN8 n8 => exact ⟨_, rfl, .plain (.alu _ _ _)⟩
  | rst10 => exact ⟨_, rfl, .plain (.call _ _)⟩
  | retC => exact ⟨_, rfl, .plain (.transferIf _ (.ret _))⟩
  | reti => exact ⟨_, rfl, .reti _⟩
  | jpCA16 a16 => exact ⟨_, rfl, .plain (.transferIf _ (.jump _ _))⟩
  | illegalDB => exact ⟨_, rfl, .fatal _ _ _ (by decide)⟩
  | callCA16 a16 => exact ⟨_, rfl, .plain (.transferIf _ (.call _ _))⟩
  | illegalDD => exact ⟨_, rfl, .fatal _ _ _ (by decide)⟩
  | sbcAN8 n8 => exact ⟨_, rfl, .plain (.alu _ _ _)⟩
  | rst18 => exact ⟨_, rfl, .plain (.call _ _)⟩
  | ldhMemA8A a8 => exact ⟨_, rfl, .plain (.storeByte _ _ _)⟩
  | popHl => exact ⟨_, rfl, .plain (.pop _ _ (by decide) _)⟩
  | ldMemCA => exact ⟨_, rfl, .plain (.storeByte _ _ _)⟩
  | illegalE3 => exact ⟨_, rfl, .fatal _ _ _ (by decide)⟩
  | illegalE4 => exact ⟨_, rfl, .fatal _ _ _ (by decide)⟩
  | pushHl => exact ⟨_, rfl, .plain (.push _ _)⟩
  | andN8 n8 => exact ⟨_, rfl, .plain (.alu _ _ _)⟩
  | rst20 => exact ⟨_, rfl, .plain (.call _ _)⟩
  | addSpE8 e8 => exact ⟨_, rfl, .plain (.pairFlags _ .sp _ _ _ _ _)⟩
  | jpHl => exact ⟨_, rfl, .plain (.jump _ _)⟩
  | ldMemA16A a16 => exact ⟨_, rfl, .plain (.storeByte _ _ _)⟩
  | illegalEB => exact ⟨_, rfl, .fatal _ _ _ (by decide)⟩
  | illegalEC => exact ⟨_, rfl, .fatal _ _ _ (by decide)⟩
  | illegalED => exact ⟨_, rfl, .fatal _ _ _ (by decide)⟩
  | xorN8 n8 => exact ⟨_, rfl, .plain (.alu _ _ _)⟩
  | rst28 => exact ⟨_, rfl, .plain (.call _ _)⟩
  | ldhAMemA8 a8 => exact ⟨_, rfl, .plain (.operand _ (.reg .a) _)⟩
  | popAf => exact ⟨_, rfl, .plain (.popAf _ _)⟩
  | ldAMemC => exact ⟨_, rfl, .plain (.operand _ (.reg .a) _)⟩
  | di => exact ⟨_, rfl, .di _⟩
  | illegalF4 => exact ⟨_, rfl, .fatal _ _ _ (by decide)⟩
  | pushAf => exact ⟨_, rfl, .plain (.push _ _)⟩
  | orN8 n8 => exact ⟨_, rfl, .plain (.alu _ _ _)⟩
  | rst30 => exact ⟨_, rfl, .plain (.call _ _)⟩
  | ldHlSpE8 e8 => exact ⟨_, rfl, .plain (.pairFlags _ .hl _ _ _ _ _)⟩
  | ldSpHl => exact ⟨_, rfl, .plain (.pair _ .sp _)⟩
  | ldAMemA16 a16 => exact ⟨_, rfl, .plain (.operand _ (.reg .a) _)⟩
  | ei => exact ⟨_, rfl, .ei _⟩
  | illegalFC => exact ⟨_, rfl, .fatal _ _ _ (by decide)⟩
  | illegalFD => exact ⟨_, rfl, .fatal _ _ _ (by decide)⟩
  | cpN8 n8 => exact ⟨_, rfl, .plain (.alu _ _ _)⟩
  | rst38 => exact ⟨_, rfl, .plain (.call _ _)⟩
  | rlcB => exact ⟨_, rfl, .plain (.operandFlags _ (.reg .b) _ _ _ _ _)⟩
  | rlcC => exact ⟨_, rfl, .plain (.operandFlags _ (.reg .c) _ _ _ _ _)⟩
  | rlcD => exact ⟨_, rfl, .plain (.operandFlags _ (.reg .d) _ _ _ _ _)⟩
  | rlcE => exact ⟨_, rfl, .plain (.operandFlags _ (.reg .e) _ _ _ _ _)⟩
  | rlcH => exact ⟨_, rfl, .plain (.operandFlags _ (.reg .h) _ _ _ _ _)⟩
  | rlcL => exact ⟨_, rfl, .plain (.operandFlags _ (.reg .l) _ _ _ _ _)⟩
  | rlcMemHl => exact ⟨_, rfl, .plain (.operandFlags _ .memHl _ _ _ _ _)⟩
  | rlcA => exact ⟨_, rfl, .plain (.operandFlags _ (.reg .a) _ _ _ _ _)⟩
  | rrcB => exact ⟨_, rfl, .plain (.operandFlags _ (.reg .b) _ _ _ _ _)⟩
  | rrcC => exact ⟨_, rfl, .plain (.operandFlags _ (.reg .c) _ _ _ _ _)⟩
  | rrcD => exact ⟨_, rfl, .plain (.operandFlags _ (.reg .d) _ _ _ _ _)⟩
  | rrcE => exact ⟨_, rfl, .plain (.operandFlags _ (.reg .e) _ _ _ _ _)⟩
  | rrcH => exact ⟨_, rfl, .plain (.operandFlags _ (.reg .h) _ _ _ _ _)⟩
  | rrcL => exact ⟨_, rfl, .plain (.operandFlags _ (.reg .l) _ _ _ _ _)⟩
  | rrcMemHl => exact ⟨_, rfl, .plain (.operandFlags _ .memHl _ _ _ _ _)⟩
  | rrcA => exact ⟨_, rfl, .plain (.operandFlags _ (.reg .a) _ _ _ _ _)⟩
  | rlB => exact ⟨_, rfl, .plain (.operandFlags _ (.reg .b) _ _ _ _ _)⟩
  | rlC => exact ⟨_, rfl, .plain (.operandFlags _ (.reg .c) _ _ _ _ _)⟩
  | rlD => exact ⟨_, rfl, .plain (.operandFlags _ (.reg .d) _ _ _ _ _)⟩
  | rlE => exact ⟨_, rfl, .plain (.operandFlags _ (.reg .e) _ _ _ _ _)⟩
  | rlH => exact ⟨_, rfl, .plain (.operandFlags _ (.reg .h) _ _ _ _ _)⟩
  | rlL => exact ⟨_, rfl, .plain (.operandFlags _ (.reg .l) _ _ _ _ _)⟩
  | rlMemHl => exact ⟨_, rfl, .plain (.operandFlags _ .memHl _ _ _ _ _)⟩
  | rlA => exact ⟨_, rfl, .plain (.operandFlags _ (.reg .a) _ _ _ _ _)⟩
  | rrB => exact ⟨_, rfl, .plain (.operandFlags _ (.reg .b) _ _ _ _ _)⟩
  | rrC => exact ⟨_, rfl, .plain (.operandFlags _ (.reg .c) _ _ _ _ _)⟩
  | rrD => exact ⟨_, rfl, .plain (.operandFlags _ (.reg .d) _ _ _ _ _)⟩
  | rrE => exact ⟨_, rfl, .plain (.operandFlags _ (.reg .e) _ _ _ _ _)⟩
  | rrH => exact ⟨_, rfl, .plain (.operandFlags _ (.reg .h) _ _ _ _ _)⟩
  | rrL => exact ⟨_, rfl, .plain (.operandFlags _ (.reg .l) _ _ _ _ _)⟩
  | rrMemHl => exact ⟨_, rfl, .plain (.operandFlags _ .memHl _ _ _ _ _)⟩
  | rrA => exact ⟨_, rfl, .plain (.operandFlags _ (.reg .a) _ _ _ _ _)⟩
  | slaB => exact ⟨_, rfl, .plain (.operandFlags _ (.reg .b) _ _ _ _ _)⟩
  | slaC => exact ⟨_, rfl, .plain (.operandFlags _ (.reg .c) _ _ _ _ _)⟩
  | slaD => exact ⟨_, rfl, .plain (.operandFlags _ (.reg .d) _ _ _ _ _)⟩
  | slaE => exact ⟨_, rfl, .plain (.operandFlags _ (.reg .e) _ _ _ _ _)⟩
  | slaH => exact ⟨_, rfl, .plain (.operandFlags _ (.reg .h) _ _ _ _ _)⟩
  | slaL => exact ⟨_, rfl, .plain (.operandFlags _ (.reg .l) _ _ _ _ _)⟩
  | slaMemHl => exact ⟨_, rfl, .plain (.operandFlags _ .memHl _ _ _ _ _)⟩
  | slaA => exact ⟨_, rfl, .plain (.operandFlags _ (.reg .a) _ _ _ _ _)⟩
  | sraB => exact ⟨_, rfl, .plain (.operandFlags _ (.reg .b) _ _ _ _ _)⟩
  | sraC => exact ⟨_, rfl, .plain (.operandFlags _ (.reg .c) _ _ _ _ _)⟩
  | sraD => exact ⟨_, rfl, .plain (.operandFlags _ (.reg .d) _ _ _ _ _)⟩
  | sraE => exact ⟨_, rfl, .plain (.operandFlags _ (.reg .e) _ _ _ _ _)⟩
  | sraH => exact ⟨_, rfl, .plain (.operandFlags _ (.reg .h) _ _ _ _ _)⟩
  | sraL => exact ⟨_, rfl, .plain (.operandFlags _ (.reg .l) _ _ _ _ _)⟩
  | sraMemHl => exact ⟨_, rfl, .plain (.operandFlags _ .memHl _ _ _ _ _)⟩
  | sraA => exact ⟨_, rfl, .plain (.operandFlags _ (.reg .a) _ _ _ _ _)⟩
  | swapB => exact ⟨_, rfl, .plain (.operandFlags _ (.reg .b) _ _ _ _ _)⟩
  | swapC => exact ⟨_, rfl, .plain (.operandFlags _ (.reg .c) _ _ _ _ _)⟩
  | swapD => exact ⟨_, rfl, .plain (.operandFlags _ (.reg .d) _ _ _ _ _)⟩
  | swapE => exact ⟨_, rfl, .plain (.operandFlags _ (.reg .e) _ _ _ _ _)⟩
  | swapH => exact ⟨_, rfl, .plain (.operandFlags _ (.reg .h) _ _ _ _ _)⟩
  | swapL => exact ⟨_, rfl, .plain (.operandFlags _ (.reg .l) _ _ _ _ _)⟩
  | swapMemHl => exact ⟨_, rfl, .plain (.operandFlags _ .memHl _ _ _ _ _)⟩
  | swapA => exact ⟨_, rfl, .plain (.operandFlags _ (.reg .a) _ _ _ _ _)⟩
  | srlB => exact ⟨_, rfl, .plain (.operandFlags _ (.reg .b) _ _ _ _ _)⟩
  | srlC => exact ⟨_, rfl, .plain (.operandFlags _ (.reg .c) _ _ _ _ _)⟩
  | srlD => exact ⟨_, rfl, .plain (.operandFlags _ (.reg .d) _ _ _ _ _)⟩
  | srlE => exact ⟨_, rfl, .plain (.operandFlags _ (.reg .e) _ _ _ _ _)⟩
  | srlH => exact ⟨_, rfl, .plain (.operandFlags _ (.reg .h) _ _ _ _ _)⟩
  | srlL => exact ⟨_, rfl, .plain (.operandFlags _ (.reg .l) _ _ _ _ _)⟩
  | srlMemHl => exact ⟨_, rfl, .plain (.operandFlags _ .memHl _ _ _ _ _)⟩
  | srlA => exact ⟨_, rfl, .plain (.operandFlags _ (.reg .a) _ _ _ _ _)⟩
  | bit0B => exact ⟨_, rfl, .plain (.flags _ _ _ _ _)⟩
  | bit0C => exact ⟨_, rfl, .plain (.flags _ _ _ _ _)⟩
  | bit0D => exact ⟨_, rfl, .plain (.flags _ _ _ _ _)⟩
  | bit0E => exact ⟨_, rfl, .plain (.flags _ _ _ _ _)⟩
  | bit0H => exact ⟨_, rfl, .plain (.flags _ _ _ _ _)⟩
  | bit0L => exact ⟨_, rfl, .plain (.flags _ _ _ _ _)⟩
  | bit0MemHl => exact ⟨_, rfl, .plain (.flags _ _ _ _ _)⟩
  | bit0A => exact ⟨_, rfl, .plain (.flags _ _ _ _ _)⟩
  | bit1B => exact ⟨_, rfl, .plain (.flags _ _ _ _ _)⟩
  | bit1C => exact ⟨_, rfl, .plain (.flags _ _ _ _ _)⟩
  | bit1D => exact ⟨_, rfl, .plain (.flags _ _ _ _ _)⟩
  | bit1E => exact ⟨_, rfl, .plain (.flags _ _ _ _ _)⟩
  | bit1H => exact ⟨_, rfl, .plain (.flags _ _ _ _ _)⟩
  | bit1L => exact ⟨_, rfl, .plain (.flags _ _ _ _ _)⟩
  | bit1MemHl => exact ⟨_, rfl, .plain (.flags _ _ _ _ _)⟩
  | bit1A => exact ⟨_, rfl, .plain (.flags _ _ _ _ _)⟩
  | bit2B => exact ⟨_, rfl, .plain (.flags _ _ _ _ _)⟩
  | bit2C => exact ⟨_, rfl, .plain (.flags _ _ _ _ _)⟩
  | bit2D => exact ⟨_, rfl, .plain (.flags _ _ _ _ _)⟩
  | bit2E => exact ⟨_, rfl, .plain (.flags _ _ _ _ _)⟩
  | bit2H => exact ⟨_, rfl, .plain (.flags _ _ _ _ _)⟩
  | bit2L => exact ⟨_, rfl, .plain (.flags _ _ _ _ _)⟩
  | bit2MemHl => exact ⟨_, rfl, .plain (.flags _ _ _ _ _)⟩
  | bit2A => exact ⟨_, rfl, .plain (.flags _ _ _ _ _)⟩
  | bit3B => exact ⟨_, rfl, .plain (.flags _ _ _ _ _)⟩
  | bit3C => exact ⟨_, rfl, .plain (.flags _ _ _ _ _)⟩
  | bit3D => exact ⟨_, rfl, .plain (.flags _ _ _ _ _)⟩
  | bit3E => exact ⟨_, rfl, .plain (.flags _ _ _ _ _)⟩
  | bit3H => exact ⟨_, rfl, .plain (.flags _ _ _ _ _)⟩
  | bit3L => exact ⟨_, rfl, .plain (.flags _ _ _ _ _)⟩
  | bit3MemHl => exact ⟨_, rfl, .plain (.flags _ _ _ _ _)⟩
  | bit3A => exact ⟨_, rfl, .plain (.flags _ _ _ _ _)⟩
  | bit4B => exact ⟨_, rfl, .plain (.flags _ _ _ _ _)⟩
  | bit4C => exact ⟨_, rfl, .plain (.flags _ _ _ _ _)⟩
  | bit4D => exact ⟨_, rfl, .plain (.flags _ _ _ _ _)⟩
  | bit4E => exact ⟨_, rfl, .plain (.flags _ _ _ _ _)⟩
  | bit4H => exact ⟨_, rfl, .plain (.flags _ _ _ _ _)⟩
  | bit4L => exact ⟨_, rfl, .plain (.flags _ _ _ _ _)⟩
  | bit4MemHl => exact ⟨_, rfl, .plain (.flags _ _ _ _ _)⟩
  | bit4A => exact ⟨_, rfl, .plain (.flags _ _ _ _ _)⟩
  | bit5B => exact ⟨_, rfl, .plain (.flags _ _ _ _ _)⟩
  | bit5C => exact ⟨_, rfl, .plain (.flags _ _ _ _ _)⟩
  | bit5D => exact ⟨_, rfl, .plain (.flags _ _ _ _ _)⟩
  | bit5E => exact ⟨_, rfl, .plain (.flags _ _ _ _ _)⟩
  | bit5H => exact ⟨_, rfl, .plain (.flags _ _ _ _ _)⟩
  | bit5L => exact ⟨_, rfl, .plain (.flags _ _ _ _ _)⟩
  | bit5MemHl => exact ⟨_, rfl, .plain (.flags _ _ _ _ _)⟩
  | bit5A => exact ⟨_, rfl, .plain (.flags _ _ _ _ _)⟩
  | bit6B => exact ⟨_, rfl, .plain (.flags _ _ _ _ _)⟩
  | bit6C => exact ⟨_, rfl, .plain (.flags _ _ _ _ _)⟩
  | bit6D => exact ⟨_, rfl, .plain (.flags _ _ _ _ _)⟩
  | bit6E => exact ⟨_, rfl, .plain (.flags _ _ _ _ _)⟩
  | bit6H => exact ⟨_, rfl, .plain (.flags _ _ _ _ _)⟩
  | bit6L => exact ⟨_, rfl, .plain (.flags _ _ _ _ _)⟩
  | bit6MemHl => exact ⟨_, rfl, .plain (.flags _ _ _ _ _)⟩
  | bit6A => exact ⟨_, rfl, .plain (.flags _ _ _ _ _)⟩
  | bit7B => exact ⟨_, rfl, .plain (.flags _ _ _ _ _)⟩
  | bit7C => exact ⟨_, rfl, .plain (.flags _ _ _ _ _)⟩
  | bit7D => exact ⟨_, rfl, .plain (.flags _ _ _ _ _)⟩
  | bit7E => exact ⟨_, rfl, .plain (.flags _ _ _ _ _)⟩
  | bit7H => exact ⟨_, rfl, .plain (.flags _ _ _ _ _)⟩
  | bit7L => exact ⟨_, rfl, .plain (.flags _ _ _ _ _)⟩
  | bit7MemHl => exact ⟨_, rfl, .plain (.flags _ _ _ _ _)⟩
  | bit7A => exact ⟨_, rfl, .plain (.flags _ _ _ _ _)⟩
  | res0B => exact ⟨_, rfl, .plain (.operand _ (.reg .b) _)⟩
  | res0C => exact ⟨_, rfl, .plain (.operand _ (.reg .c) _)⟩
  | res0D => exact ⟨_, rfl, .plain (.operand _ (.reg .d) _)⟩
  | res0E => exact ⟨_, rfl, .plain (.operand _ (.reg .e) _)⟩
  | res0H => exact ⟨_, rfl, .plain (.operand _ (.reg .h) _)⟩
  | res0L => exact ⟨_, rfl, .plain (.operand _ (.reg .l) _)⟩
  | res0MemHl => exact ⟨_, rfl, .plain (.operand _ .memHl _)⟩
  | res0A => exact ⟨_, rfl, .plain (.operand _ (.reg .a) _)⟩
  | res1B => exact ⟨_, rfl, .plain (.operand _ (.reg .b) _)⟩
  | res1C => exact ⟨_, rfl, .plain (.operand _ (.reg .c) _)⟩
  | res1D => exact ⟨_, rfl, .plain (.operand _ (.reg .d) _)⟩
  | res1E => exact ⟨_, rfl, .plain (.operand _ (.reg .e) _)⟩
  | res1H => exact ⟨_, rfl, .plain (.operand _ (.reg .h) _)⟩
  | res1L => exact ⟨_, rfl, .plain (.operand _ (.reg .l) _)⟩
  | res1MemHl => exact ⟨_, rfl, .plain (.operand _ .memHl _)⟩
  | res1A => exact ⟨_, rfl, .plain (.operand _ (.reg .a) _)⟩
  | res2B => exact ⟨_, rfl, .plain (.operand _ (.reg .b) _)⟩
  | res2C => exact ⟨_, rfl, .plain (.operand _ (.reg .c) _)⟩
  | res2D => exact ⟨_, rfl, .plain (.operand _ (.reg .d) _)⟩
  | res2E => exact ⟨_, rfl, .plain (.operand _ (.reg .e) _)⟩
  | res2H => exact ⟨_, rfl, .plain (.operand _ (.reg .h) _)⟩
  | res2L => exact ⟨_, rfl, .plain (.operand _ (.reg .l) _)⟩
  | res2MemHl => exact ⟨_, rfl, .plain (.operand _ .memHl _)⟩
  | res2A => exact ⟨_, rfl, .plain (.operand _ (.reg .a) _)⟩
  | res3B => exact ⟨_, rfl, .plain (.operand _ (.reg .b) _)⟩
  | res3C => exact ⟨_, rfl, .plain (.operand _ (.reg .c) _)⟩
  | res3D => exact ⟨_, rfl, .plain (.operand _ (.reg .d) _)⟩
  | res3E => exact ⟨_, rfl, .plain (.operand _ (.reg .e) _)⟩
  | res3H => exact ⟨_, rfl, .plain (.operand _ (.reg .h) _)⟩
  | res3L => exact ⟨_, rfl, .plain (.operand _ (.reg .l) _)⟩
  | res3MemHl => exact ⟨_, rfl, .plain (.operand _ .memHl _)⟩
  | res3A => exact ⟨_, rfl, .plain (.operand _ (.reg .a) _)⟩
  | res4B => exact ⟨_, rfl, .plain (.operand _ (.reg .b) _)⟩
  | res4C => exact ⟨_, rfl, .plain (.operand _ (.reg .c) _)⟩
  | res4D => exact ⟨_, rfl, .plain (.operand _ (.reg .d) _)⟩
  | res4E => exact ⟨_, rfl, .plain (.operand _ (.reg .e) _)⟩
  | res4H => exact ⟨_, rfl, .plain (.operand _ (.reg .h) _)⟩
  | res4L => exact ⟨_, rfl, .plain (.operand _ (.reg .l) _)⟩
  | res4MemHl => exact ⟨_, rfl, .plain (.operand _ .memHl _)⟩
  | res4A => exact ⟨_, rfl, .plain (.operand _ (.reg .a) _)⟩
  | res5B => exact ⟨_, rfl, .plain (.operand _ (.reg .b) _)⟩
  | res5C => exact ⟨_, rfl, .plain (.operand _ (.reg .c) _)⟩
  | res5D => exact ⟨_, rfl, .plain (.operand _ (.reg .d) _)⟩
  | res5E => exact ⟨_, rfl, .plain (.operand _ (.reg .e) _)⟩
  | res5H => exact ⟨_, rfl, .plain (.operand _ (.reg .h) _)⟩
  | res5L => exact ⟨_, rfl, .plain (.operand _ (.reg .l) _)⟩
  | res5MemHl => exact ⟨_, rfl, .plain (.operand _ .memHl _)⟩
  | res5A => exact ⟨_, rfl, .plain (.operand _ (.reg .a) _)⟩
  | res6B => exact ⟨_, rfl, .plain (.operand _ (.reg .b) _)⟩
  | res6C => exact ⟨_, rfl, .plain (.operand _ (.reg .c) _)⟩
  | res6D => exact ⟨_, rfl, .plain (.operand _ (.reg .d) _)⟩
  | res6E => exact ⟨_, rfl, .plain (.operand _ (.reg .e) _)⟩
  | res6H => exact ⟨_, rfl, .plain (.operand _ (.reg .h) _)⟩
  | res6L => exact ⟨_, rfl, .plain (.operand _ (.reg .l) _)⟩
  | res6MemHl => exact ⟨_, rfl, .plain (.operand _ .memHl _)⟩
  | res6A => exact ⟨_, rfl, .plain (.operand _ (.reg .a) _)⟩
  | res7B => exact ⟨_, rfl, .plain (.operand _ (.reg .b) _)⟩
  | res7C => exact ⟨_, rfl, .plain (.operand _ (.reg .c) _)⟩
  | res7D => exact ⟨_, rfl, .plain (.operand _ (.reg .d) _)⟩
  | res7E => exact ⟨_, rfl, .plain (.operand _ (.reg .e) _)⟩
  | res7H => exact ⟨_, rfl, .plain (.operand _ (.reg .h) _)⟩
  | res7L => exact ⟨_, rfl, .plain (.operand _ (.reg .l) _)⟩
  | res7MemHl => exact ⟨_, rfl, .plain (.operand _ .memHl _)⟩
  | res7A => exact ⟨_, rfl, .plain (.operand _ (.reg .a) _)⟩
  | set0B => exact ⟨_, rfl, .plain (.operand _ (.reg .b) _)⟩
  | set0C => exact ⟨_, rfl, .plain (.operand _ (.reg .c) _)⟩
  | set0D => exact ⟨_, rfl, .plain (.operand _ (.reg .d) _)⟩
  | set0E => exact ⟨_, rfl, .plain (.operand _ (.reg .e) _)⟩
  | set0H => exact ⟨_, rfl, .plain (.operand _ (.reg .h) _)⟩
  | set0L => exact ⟨_, rfl, .plain (.operand _ (.reg .l) _)⟩
  | set0MemHl => exact ⟨_, rfl, .plain (.operand _ .memHl _)⟩
  | set0A => exact ⟨_, rfl, .plain (.operand _ (.reg .a) _)⟩
  | set1B => exact ⟨_, rfl, .plain (.operand _ (.reg .b) _)⟩
  | set1C => exact ⟨_, rfl, .plain (.operand _ (.reg .c) _)⟩
  | set1D => exact ⟨_, rfl, .plain (.operand _ (.reg .d) _)⟩
  | set1E => exact ⟨_, rfl, .plain (.operand _ (.reg .e) _)⟩
  | set1H => exact ⟨_, rfl, .plain (.operand _ (.reg .h) _)⟩
  | set1L => exact ⟨_, rfl, .plain (.operand _ (.reg .l) _)⟩
  | set1MemHl => exact ⟨_, rfl, .plain (.operand _ .memHl _)⟩
  | set1A => exact ⟨_, rfl, .plain (.operand _ (.reg .a) _)⟩
  | set2B => exact ⟨_, rfl, .plain (.operand _ (.reg .b) _)⟩
  | set2C => exact ⟨_, rfl, .plain (.operand _ (.reg .c) _)⟩
  | set2D => exact ⟨_, rfl, .plain (.operand _ (.reg .d) _)⟩
  | set2E => exact ⟨_, rfl, .plain (.operand _ (.reg .e) _)⟩
  | set2H => exact ⟨_, rfl, .plain (.operand _ (.reg .h) _)⟩
  | set2L => exact ⟨_, rfl, .plain (.operand _ (.reg .l) _)⟩
  | set2MemHl => exact ⟨_, rfl, .plain (.operand _ .memHl _)⟩
  | set2A => exact ⟨_, rfl, .plain (.operand _ (.reg .a) _)⟩
  | set3B => exact ⟨_, rfl, .plain (.operand _ (.reg .b) _)⟩
  | set3C => exact ⟨_, rfl, .plain (.operand _ (.reg .c) _)⟩
  | set3D => exact ⟨_, rfl, .plain (.operand _ (.reg .d) _)⟩
  | set3E => exact ⟨_, rfl, .plain (.operand _ (.reg .e) _)⟩
  | set3H => exact ⟨_, rfl, .plain (.operand _ (.reg .h) _)⟩
  | set3L => exact ⟨_, rfl, .plain (.operand _ (.reg .l) _)⟩
  | set3MemHl => exact ⟨_, rfl, .plain (.operand _ .memHl _)⟩
  | set3A => exact ⟨_, rfl, .plain (.operand _ (.reg .a) _)⟩
  | set4B => exact ⟨_, rfl, .plain (.operand _ (.reg .b) _)⟩
  | set4C => exact ⟨_, rfl, .plain (.operand _ (.reg .c) _)⟩
  | set4D => exact ⟨_, rfl, .plain (.operand _ (.reg .d) _)⟩
  | set4E => exact ⟨_, rfl, .plain (.operand _ (.reg .e) _)⟩
  | set4H => exact ⟨_, rfl, .plain (.operand _ (.reg .h) _)⟩
  | set4L => exact ⟨_, rfl, .plain (.operand _ (.reg .l) _)⟩
  | set4MemHl => exact ⟨_, rfl, .plain (.operand _ .memHl _)⟩
  | set4A => exact ⟨_, rfl, .plain (.operand _ (.reg .a) _)⟩
  | set5B => exact ⟨_, rfl, .plain (.operand _ (.reg .b) _)⟩
  | set5C => exact ⟨_, rfl, .plain (.operand _ (.reg .c) _)⟩
  | set5D => exact ⟨_, rfl, .plain (.operand _ (.reg .d) _)⟩
  | set5E => exact ⟨_, rfl, .plain (.operand _ (.reg .e) _)⟩
  | set5H => exact ⟨_, rfl, .plain (.operand _ (.reg .h) _)⟩
  | set5L => exact ⟨_, rfl, .plain (.operand _ (.reg .l) _)⟩
  | set5MemHl => exact ⟨_, rfl, .plain (.operand _ .memHl _)⟩
  | set5A => exact ⟨_, rfl, .plain (.operand _ (.reg .a) _)⟩
  | set6B => exact ⟨_, rfl, .plain (.operand _ (.reg .b) _)⟩
  | set6C => exact ⟨_, rfl, .plain (.operand _ (.reg .c) _)⟩
  | set6D => exact ⟨_, rfl, .plain (.operand _ (.reg .d) _)⟩
  | set6E => exact ⟨_, rfl, .plain (.operand _ (.reg .e) _)⟩
  | set6H => exact ⟨_, rfl, .plain (.operand _ (.reg .h) _)⟩
  | set6L => exact ⟨_, rfl, .plain (.operand _ (.reg .l) _)⟩
  | set6MemHl => exact ⟨_, rfl, .plain (.operand _ .memHl _)⟩
  | set6A => exact ⟨_, rfl, .plain (.operand _ (.reg .a) _)⟩
  | set7B => exact ⟨_, rfl, .plain (.operand _ (.reg .b) _)⟩
  | set7C => exact ⟨_, rfl, .plain (.operand _ (.reg .c) _)⟩
  | set7D => exact ⟨_, rfl, .plain (.operand _ (.reg .d) _)⟩
  | set7E => exact ⟨_, rfl, .plain (.operand _ (.reg .e) _)⟩
  | set7H => exact ⟨_, rfl, .plain (.operand _ (.reg .h) _)⟩
  | set7L => exact ⟨_, rfl, .plain (.operand _ (.reg .l) _)⟩
  | set7MemHl => exact ⟨_, rfl, .plain (.operand _ .memHl _)⟩
  | set7A => exact ⟨_, rfl, .plain (.operand _ (.reg .a) _)⟩

theorem exec_next (i : Instr) (s : State) : ∃ t, exec i s = .next t :=
  let ⟨t, h, _⟩ := exec_effect i s
  ⟨t, h⟩

/-- The effect of an instruction that answered `t`. -/
theorem effect_of_exec {i : Instr} {s t : State} (h : exec i s = .next t) : Effect i s t := by
  obtain ⟨t', h', he⟩ := exec_effect i s
  rw [h'] at h
  cases h
  exact he

theorem PlainEffect.status {s t : State} (h : PlainEffect s t) :
    t.ime = s.ime ∧ t.halted = s.halted ∧ t.stopped = s.stopped ∧ t.fatal = s.fatal := by
  induction h with
  | operand s o v => cases o <;> simp [State.writeOperand]
  | operandFlags s o v z n h c => cases o <;> simp [State.writeOperand]
  | pop s p hp v => cases p <;> exact ⟨rfl, rfl, rfl, rfl⟩
  | call s target => simp [State.callTo]
  | afterFetch s pc _ ih => exact ih
  | _ => simp [State.returnFrom]

theorem PlainEffect.wf {s t : State} (h : PlainEffect s t) (hm : s.mem.wf) : t.mem.wf := by
  induction h with
  | operand s o v =>
    cases o
    · simpa [State.writeOperand] using hm
    · exact State.wf_writeByte hm _ _
  | operandFlags s o v z n h c =>
    cases o
    · simpa [State.writeOperand] using hm
    · exact State.wf_writeByte hm _ _
  | storeByte s a v => exact State.wf_writeByte hm _ _
  | storeAdjust s a v w => exact State.wf_writeByte hm _ _
  | storeWord s a v => exact State.wf_writeWord hm _ _
  | push s v => exact State.wf_writeWord (s := { s with sp := s.sp - 2#16 }) hm _ _
  | call s target => exact State.wf_writeWord (s := { s with sp := s.sp - 2#16 }) hm _ _
  | pop s p hp v => cases p <;> exact hm
  | afterFetch s pc _ ih => exact ih hm
  | ret s => exact hm
  | _ => simpa using hm

/-- "Every write of F preserves it" (10_state.md R13). -/
theorem PlainEffect.low {s t : State} (h : PlainEffect s t) (hf : s.f.extractLsb' 0 4 = 0#4) :
    t.f.extractLsb' 0 4 = 0#4 := by
  induction h with
  | operand s o v => cases o <;> simpa [State.writeOperand] using hf
  | operandFlags s o v z n h c => cases o <;> simpa [State.writeOperand] using hf
  | pop s p hp v => cases p <;> first | exact hf | exact absurd rfl hp
  | popAf s v => exact lowByte_masked_low v
  | call s target => simpa [State.callTo] using hf
  | afterFetch s pc _ ih => exact ih hf
  | _ => simpa [State.returnFrom] using hf

end Sys2Proof.Machine
end

