-- ==== Sys2Proof/Laws/HostOps.lean ====
section
/-! SUPPORT. What loading a ROM image (20_memory.md R47) and filling the other arrays at power-on
(00_scope.md R4) do. -/

namespace Sys2Proof.Machine

theorem Memory.wf_nil : Memory.wf [] := by decide

theorem Memory.wf_setRom {m : Memory} (hm : m.wf) (k : Nat) (v : Byte) :
    Memory.wf (if k < 0x8000 then m.set k v else m) := by
  split
  · exact Memory.wf_set hm (by rw [ownsStorage_iff]; omega) v
  · exact hm

theorem Memory.wf_loadRomFrom (image : List Byte) :
    ∀ {m : Memory} (k : Nat), m.wf → (loadRomFrom k image m).wf := by
  induction image with
  | nil => exact fun _ hm => hm
  | cons v rest ih => exact fun k hm => ih _ (Memory.wf_setRom hm k v)

/-- Every byte after loading: the image's where the image reaches, below 0x8000; else as before. -/
theorem Memory.get_loadRomFrom (image : List Byte) :
    ∀ {m : Memory} (k : Nat), m.wf → ∀ j, (loadRomFrom k image m).get j =
      if k ≤ j ∧ j < k + image.length ∧ j < 0x8000 then image.getD (j - k) 0#8 else m.get j := by
  induction image with
  | nil =>
    intro m k _ j
    rw [if_neg (by simp only [List.length_nil]; omega)]
    rfl
  | cons v rest ih =>
    intro m k hm j
    have hset : (if k < 0x8000 then m.set k v else m).get j =
        if j = k ∧ k < 0x8000 then v else m.get j := by
      by_cases hk : k < 0x8000
      · simp [hk, Memory.get_set hm]
      · simp [hk]
    rw [loadRomFrom, ih _ (Memory.wf_setRom hm k v), hset, List.length_cons]
    by_cases hj : k + 1 ≤ j
    · obtain ⟨n, rfl⟩ : ∃ n, j = k + 1 + n := ⟨j - (k + 1), by omega⟩
      have hn : k + 1 + n - k = n + 1 := by omega
      have hn' : k + 1 + n - (k + 1) = n := by omega
      rw [hn, hn', List.getD_cons_succ]
      split_ifs <;> first | rfl | omega
    · by_cases hk : j = k
      · subst hk
        rw [Nat.sub_self, List.getD_cons_zero]
        split_ifs <;> first | rfl | omega
      · split_ifs <;> first | rfl | omega

theorem State.wf_loadRom {s : State} (hm : s.mem.wf) (image : List Byte) :
    (s.loadRom image).mem.wf :=
  Memory.wf_loadRomFrom image 0 hm

/-! ### Power-on contents for any MEM_INIT -/

theorem Memory.wf_storageFrom (init : Nat → Byte) : ∀ n, (storageFrom init n).wf
  | 0 => Memory.wf_nil
  | n + 1 => by
    rw [storageFrom]
    split
    · exact Memory.wf_set (Memory.wf_storageFrom init n) (by simp_all) (init n)
    · exact Memory.wf_storageFrom init n

/-- Every byte the fill leaves: MEM_INIT where an array other than ROM holds it, else unlisted. -/
theorem Memory.get_storageFrom (init : Nat → Byte) (n j : Nat) : (storageFrom init n).get j =
    if j < n ∧ 0x8000 ≤ j ∧ ownsStorage j = true then init j else Config.memInit j := by
  induction n with
  | zero => simp [storageFrom, Memory.get]
  | succ n ih =>
    rw [storageFrom]
    split
    · rename_i hn
      simp only [Bool.and_eq_true, decide_eq_true_eq] at hn
      rw [Memory.get_set (Memory.wf_storageFrom init n), ih]
      by_cases hj : j = n
      · subst hj
        rw [if_pos rfl, if_pos ⟨Nat.lt_succ_self j, hn⟩]
      · have hlt : j < n + 1 ↔ j < n := by omega
        simp only [if_neg hj, hlt]
    · rename_i hn
      simp only [Bool.and_eq_true, decide_eq_true_eq] at hn
      rw [ih]
      by_cases hj : j = n
      · subst hj
        rw [if_neg (fun h => hn h.2), if_neg (fun h => hn h.2)]
      · have hlt : j < n + 1 ↔ j < n := by omega
        simp only [hlt]

theorem powerOnStorage_eq (init : Nat → Byte) :
    powerOnStorage init = storageFrom init 0x10000 := by
  unfold powerOnStorage
  rfl

theorem Memory.wf_powerOnStorage (init : Nat → Byte) : (powerOnStorage init).wf := by
  rw [powerOnStorage_eq]
  exact Memory.wf_storageFrom init _

theorem Memory.get_powerOnStorage (init : Nat → Byte) (k : Nat) : (powerOnStorage init).get k =
    if 0x8000 ≤ k ∧ ownsStorage k = true then init k else Config.memInit k := by
  rw [powerOnStorage_eq, Memory.get_storageFrom]
  refine if_congr ⟨And.right, fun h => ⟨(ownsStorage_iff.mp h.2).1, h⟩⟩ rfl rfl

/-- Filling with what unlisted addresses read as lists nothing. -/
theorem storageFrom_memInit (n : Nat) : storageFrom Config.memInit n = [] := by
  induction n with
  | zero => rfl
  | succ n ih =>
    rw [storageFrom, ih]
    split
    · simp [Memory.set, Memory.cellFor]
    · rfl

theorem powerOnStorage_memInit : powerOnStorage Config.memInit = [] := by
  rw [powerOnStorage_eq]
  exact storageFrom_memInit _

theorem State.wf_powerOnWith (init : Nat → Byte) (image : List Byte) :
    (powerOnWith init image).mem.wf :=
  Memory.wf_loadRomFrom image 0 (Memory.wf_powerOnStorage init)

/-- Every storage byte at power-on: the image and its zero fill in ROM, MEM_INIT elsewhere. -/
theorem State.get_powerOnWith (init : Nat → Byte) (image : List Byte) {k : Nat}
    (hk : ownsStorage k = true) : (powerOnWith init image).mem.get k =
      if k < 0x8000 then image.getD k 0#8 else init k := by
  refine (Memory.get_loadRomFrom image 0 (Memory.wf_powerOnStorage init) k).trans ?_
  rw [Memory.get_powerOnStorage]
  by_cases hr : k < 0x8000
  · by_cases hi : k < image.length
    · simp [hr, hi]
    · simp [hr, hi, Config.memInit]
  · simp [hr, hk, Nat.not_lt.mp hr]

end Sys2Proof.Machine
end

