-- ==== Sys2Proof/Laws/Step.lean ====
section
/-! SUPPORT. What a step can do, said once: the interrupt check, fetching against decoding, and the
four cases of a step. -/

namespace Sys2Proof.Machine

/-! ### The interrupt check -/

@[simp] theorem State.wakeUp_ime (s : State) : s.wakeUp.ime = s.ime := by
  unfold State.wakeUp; split <;> rfl

@[simp] theorem State.wakeUp_f (s : State) : s.wakeUp.f = s.f := by
  unfold State.wakeUp; split <;> rfl

@[simp] theorem State.wakeUp_sp (s : State) : s.wakeUp.sp = s.sp := by
  unfold State.wakeUp; split <;> rfl

@[simp] theorem State.wakeUp_pc (s : State) : s.wakeUp.pc = s.pc := by
  unfold State.wakeUp; split <;> rfl

@[simp] theorem State.wakeUp_stopped (s : State) : s.wakeUp.stopped = s.stopped := by
  unfold State.wakeUp; split <;> rfl

@[simp] theorem State.wakeUp_fatal (s : State) : s.wakeUp.fatal = s.fatal := by
  unfold State.wakeUp; split <;> rfl

@[simp] theorem State.wakeUp_mem (s : State) : s.wakeUp.mem = s.mem := by
  unfold State.wakeUp; split <;> rfl

@[simp] theorem State.readR8_wakeUp (s : State) (x : R8) : s.wakeUp.readR8 x = s.readR8 x := by
  unfold State.wakeUp; split <;> cases x <;> rfl

@[simp] theorem State.readByte_wakeUp (s : State) (a : Word) :
    s.wakeUp.readByte a = s.readByte a := State.readByte_congr s.wakeUp_mem a

/-- Everything phase 1 of the check can do (60_exceptions.md R303). -/
theorem State.wakeUp_eq (s : State) :
    s.wakeUp = { s with halted := s.halted && decide (s.readByte ifAddress = 0#8) } := by
  unfold State.wakeUp
  split <;> simp [*]

/-- Everything the check can do (60_exceptions.md R303, R304): wake up, and take the interrupt of the
lowest enabled request if IME is set. -/
theorem State.interruptCheck_cases (s : State) :
    (∃ k, s.ime = true ∧ lowestSource s.activeRequests = some k ∧
      s.interruptCheck = s.wakeUp.takeInterrupt k) ∨
    ((s.ime = false ∨ lowestSource s.activeRequests = none) ∧ s.interruptCheck = s.wakeUp) := by
  unfold State.interruptCheck
  cases hi : s.ime with
  | false => exact .inr ⟨.inl rfl, rfl⟩
  | true =>
    cases hk : lowestSource s.activeRequests with
    | none => exact .inr ⟨.inr rfl, rfl⟩
    | some k => exact .inl ⟨k, rfl, rfl, rfl⟩

/-- The chosen source is the lowest set bit (60_exceptions.md R305). -/
theorem lowestSource_eq_some {v : Byte} {k : InterruptSource} :
    lowestSource v = some k ↔
      v.getLsbD (sourceBit k) = true ∧ ∀ j, j < sourceBit k → v.getLsbD j = false := by
  revert v
  cases k <;> decide

/-- No source is chosen exactly if bits 4..0 are zero. -/
theorem lowestSource_eq_none {v : Byte} : lowestSource v = none ↔ v &&& 0x1F#8 = 0#8 := by
  revert v
  decide

/-! ### Taking an interrupt (60_exceptions.md R304, R309) -/

@[simp] theorem State.takeInterrupt_f (s : State) (k : InterruptSource) :
    (s.takeInterrupt k).f = s.f := by
  simp [State.takeInterrupt, State.clearRequest]

@[simp] theorem State.takeInterrupt_sp (s : State) (k : InterruptSource) :
    (s.takeInterrupt k).sp = s.sp - 2#16 := by
  simp [State.takeInterrupt, State.clearRequest]

@[simp] theorem State.takeInterrupt_pc (s : State) (k : InterruptSource) :
    (s.takeInterrupt k).pc = sourceVector k := rfl

@[simp] theorem State.takeInterrupt_ime (s : State) (k : InterruptSource) :
    (s.takeInterrupt k).ime = false := by
  simp [State.takeInterrupt, State.clearRequest]

@[simp] theorem State.takeInterrupt_halted (s : State) (k : InterruptSource) :
    (s.takeInterrupt k).halted = s.halted := by
  simp [State.takeInterrupt, State.clearRequest]

@[simp] theorem State.takeInterrupt_stopped (s : State) (k : InterruptSource) :
    (s.takeInterrupt k).stopped = s.stopped := by
  simp [State.takeInterrupt, State.clearRequest]

@[simp] theorem State.takeInterrupt_fatal (s : State) (k : InterruptSource) :
    (s.takeInterrupt k).fatal = s.fatal := by
  simp [State.takeInterrupt, State.clearRequest]

@[simp] theorem State.readR8_takeInterrupt (s : State) (k : InterruptSource) (x : R8) :
    (s.takeInterrupt k).readR8 x = s.readR8 x := by
  cases x <;> simp [State.takeInterrupt, State.clearRequest, State.readR8]

theorem State.readByte_push16 (s : State) (v a : Word) :
    (s.push16 v).readByte a = (s.writeWord (s.sp - 2#16) v).readByte a :=
  State.readByte_congr
    (State.mem_writeWord_congr (s := s) (t := { s with sp := s.sp - 2#16 }) rfl _ _) a

/-- Every byte after an interrupt is taken: what the push left, with the request bit cleared in IF
(60_exceptions.md R304). -/
theorem State.readByte_takeInterrupt {s : State} (hm : s.mem.wf) (k : InterruptSource) (a : Word) :
    (s.takeInterrupt k).readByte a =
      if a = ifAddress then (s.push16 s.pc).readByte a &&& ~~~(1#8 <<< sourceBit k)
      else (s.push16 s.pc).readByte a := by
  have hp : ∀ b, (State.push16 { s with ime := false } s.pc).readByte b =
      (s.push16 s.pc).readByte b := fun b =>
    State.readByte_congr (State.mem_writeWord_congr (s := { s with sp := s.sp - 2#16 })
      (t := { s with ime := false, sp := s.sp - 2#16 }) rfl _ _) b
  have hw : (State.push16 { s with ime := false } s.pc).mem.wf :=
    State.wf_writeWord (s := { s with ime := false, sp := s.sp - 2#16 }) hm _ _
  have haddr : writable ifAddress = true ∧ (storageAddress a = storageAddress ifAddress ↔
      a = ifAddress) := by
    refine ⟨by decide, fun h => ?_, fun h => by rw [h]⟩
    have := a.isLt
    rw [storageAddress_eq, storageAddress_eq ifAddress] at h
    apply BitVec.eq_of_toNat_eq
    split_ifs at h <;> simp_all [ifAddress]; omega
  refine (State.readByte_writeByte hw _ _ a).trans ?_
  simp only [haddr.1, haddr.2, true_and, hp]
  split
  · subst a; rfl
  · rfl

theorem State.wf_takeInterrupt {s : State} (hm : s.mem.wf) (k : InterruptSource) :
    (s.takeInterrupt k).mem.wf :=
  State.wf_writeByte
    (State.wf_writeWord (s := { s with ime := false, sp := s.sp - 2#16 }) hm _ _) _ _

theorem State.wf_interruptCheck {s : State} (hm : s.mem.wf) : s.interruptCheck.mem.wf := by
  rcases s.interruptCheck_cases with ⟨k, -, -, h⟩ | ⟨-, h⟩ <;> rw [h]
  · exact State.wf_takeInterrupt (by simpa using hm) k
  · simpa using hm

@[simp] theorem State.interruptCheck_f (s : State) : s.interruptCheck.f = s.f := by
  rcases s.interruptCheck_cases with ⟨k, -, -, h⟩ | ⟨-, h⟩ <;> simp [h]

@[simp] theorem State.interruptCheck_stopped (s : State) :
    s.interruptCheck.stopped = s.stopped := by
  rcases s.interruptCheck_cases with ⟨k, -, -, h⟩ | ⟨-, h⟩ <;> simp [h]

@[simp] theorem State.interruptCheck_fatal (s : State) : s.interruptCheck.fatal = s.fatal := by
  rcases s.interruptCheck_cases with ⟨k, -, -, h⟩ | ⟨-, h⟩ <;> simp [h]

/-! ### Fetching -/

/-- The fetch reads what `decode` reads from the three bytes at PC, and moves PC past the bytes used
(30_encoding.md R60 to R64). -/
theorem State.fetchInstr_eq_decode (s : State) :
    ∃ rest, decode [s.readByte s.pc, s.readByte (s.pc + 1#16), s.readByte (s.pc + 2#16)] =
        .ok (s.fetchInstr.1, rest) ∧
      s.fetchInstr.2 = { s with pc := s.pc + BitVec.ofNat 16 (3 - rest.length) } := by
  have hpc : ∀ x : Word, x + 1#16 + 1#16 = x + 2#16 := fun x => by rw [BitVec.add_assoc]; rfl
  have hpc3 : ∀ x : Word, x + 2#16 + 1#16 = x + 3#16 := fun x => by rw [BitVec.add_assoc]; rfl
  have hread : ∀ (p x : Word), State.readByte { s with pc := p } x = s.readByte x :=
    fun p x => rfl
  unfold State.fetchInstr decode
  simp only [State.fetch8, hread, hpc, hpc3]
  split
  · exact ⟨_, rfl, rfl⟩
  · have hlen : primaryLength (s.readByte s.pc) = 1 ∨ primaryLength (s.readByte s.pc) = 2 ∨
        primaryLength (s.readByte s.pc) = 3 := by
      generalize s.readByte s.pc = op
      revert op
      decide
    rcases hlen with h | h | h <;> rw [h] <;> exact ⟨_, rfl, rfl⟩

/-! ### The step -/

/-- The four cases of a step (30_encoding.md R60). -/
theorem step_cases (s : State) :
    (s.fatal ≠ none ∧ step s = .next s) ∨
    (s.fatal = none ∧ s.stopped = true ∧ step s = .next s) ∨
    (s.fatal = none ∧ s.stopped = false ∧ s.halted = true ∧ step s = .next s.interruptCheck) ∨
    (s.fatal = none ∧ s.stopped = false ∧ s.halted = false ∧
      ∃ t, exec s.fetchInstr.1 s.fetchInstr.2 = .next t ∧
        Effect s.fetchInstr.1 s.fetchInstr.2 t ∧ step s = .next t.finishStep) := by
  unfold step cycle
  cases hf : s.fatal with
  | some r => exact .inl ⟨by simp, rfl⟩
  | none =>
    cases hs : s.stopped with
    | true => exact .inr (.inl ⟨rfl, rfl, rfl⟩)
    | false =>
      cases hh : s.halted with
      | true => exact .inr (.inr (.inl ⟨rfl, rfl, rfl, rfl⟩))
      | false =>
        obtain ⟨t, ht, he⟩ := exec_effect s.fetchInstr.1 s.fetchInstr.2
        exact .inr (.inr (.inr ⟨rfl, rfl, rfl, t, ht, he, by simp [ht, mapNext]⟩))

end Sys2Proof.Machine
end

