-- ==== Sys2Proof/Laws/Ops.lean ====
section
/-! SUPPORT. The shared operations, each said once: results and flags as comparisons on numbers,
operand writes, the stack operations, and where `placeInstr` puts an instruction. -/

namespace Sys2Proof.Machine

/-! ### Results and flags -/

theorem add8_r (a b : Byte) (cin : Bool) : (add8 a b cin).r = a + b + BitVec.ofNat 8 cin.toNat := by
  apply BitVec.eq_of_toNat_eq
  cases cin <;> simp [add8, BitVec.toNat_add]

theorem sub8_r (a b : Byte) (cin : Bool) : (sub8 a b cin).r = a - b - BitVec.ofNat 8 cin.toNat := by
  apply BitVec.eq_of_toNat_eq
  have := a.isLt
  have := b.isLt
  cases cin <;> simp [sub8, BitVec.toNat_sub, BitVec.toNat_ofInt] <;> omega

/-- Half-carry of a subtraction: the borrow from the low nibble (41_alu8.md R132). -/
theorem sub8_h (a b : Byte) (cin : Bool) :
    (sub8 a b cin).h = decide (a.toNat % 16 < b.toNat % 16 + cin.toNat) :=
  decide_eq_decide.mpr (by omega)

/-- Carry of a subtraction: the borrow from the whole byte (41_alu8.md R132). -/
theorem sub8_c (a b : Byte) (cin : Bool) :
    (sub8 a b cin).c = decide (a.toNat < b.toNat + cin.toNat) :=
  decide_eq_decide.mpr (by omega)

theorem add16_r (a b : Word) : (add16 a b).r = a + b := by
  apply BitVec.eq_of_toNat_eq
  simp [add16, BitVec.toNat_add]

theorem inc8_h (v : Byte) (c : Bool) : (inc8 v c).h = decide (v.toNat % 16 = 0xF) := by
  show (v &&& 0x0F#8 == 0x0F#8) = _
  revert v
  decide

theorem dec8_h (v : Byte) (c : Bool) : (dec8 v c).h = decide (v.toNat % 16 = 0) := by
  show (v &&& 0x0F#8 == 0x00#8) = _
  revert v
  decide

/-- "Bit k of SP ^ e ^ r is the carry into bit k of the 16-bit sum" (47_stack_sp.md R256). -/
theorem xor_sum_bit {k : Nat} (hk : k < 16) (a b : Word) :
    (a ^^^ b ^^^ (a + b)).getLsbD k = decide (a.toNat % 2 ^ k + b.toNat % 2 ^ k ≥ 2 ^ k) := by
  have hc : BitVec.carry k a b false = decide (a.toNat % 2 ^ k + b.toNat % 2 ^ k ≥ 2 ^ k) := by
    simp [BitVec.carry]
  rw [BitVec.getLsbD_xor, BitVec.getLsbD_xor, BitVec.getLsbD_add hk, ← hc]
  cases a.getLsbD k <;> cases b.getLsbD k <;> simp

/-- A displacement is added as the signed number it encodes (30_encoding.md R65). -/
theorem add_displacement (p : Word) (e8 : Byte) :
    p + displacement e8 = BitVec.ofInt 16 (p.toNat + e8.toInt) := by
  unfold displacement
  rw [BitVec.signExtend]
  apply BitVec.eq_of_toInt_eq
  simp [BitVec.toInt_add, BitVec.toInt_ofInt, BitVec.toInt_eq_toNat_bmod p]

theorem highPage_eq (offset : Byte) : highPage offset = 0xFF00#16 + offset.setWidth 16 := by
  apply BitVec.eq_of_toNat_eq
  have := offset.isLt
  unfold highPage
  rw [word_toNat, BitVec.toNat_add, BitVec.toNat_setWidth]
  simp
  omega

/-! ### Operands -/

@[simp] theorem State.writeOperand_reg (s : State) (r : R8) (v : Byte) :
    s.writeOperand (.reg r) v = s.writeR8 r v := rfl

@[simp] theorem State.writeOperand_memHl (s : State) (v : Byte) :
    s.writeOperand .memHl v = s.writeByte s.hl v := rfl

@[simp] theorem State.readOperand_reg (s : State) (r : R8) : s.readOperand (.reg r) = s.readR8 r := rfl

@[simp] theorem State.readOperand_memHl (s : State) : s.readOperand .memHl = s.readByte s.hl := rfl

/-- ALU[op] writes A (but for CP) and the four flags, and nothing else (41_alu8.md R133 to R156). -/
theorem State.readR8_alu (s : State) (op : AluOp) (v : Byte) (x : R8) :
    (s.alu op v).readR8 x =
      if x = .a ∧ op ≠ .cp then (aluOut op s.a v s.flagC).r else s.readR8 x := by
  cases op <;> cases x <;> rfl

theorem State.alu_mem (s : State) (op : AluOp) (v : Byte) : (s.alu op v).mem = s.mem := by
  cases op <;> rfl

/-! ### Stack -/

@[simp] theorem State.callTo_pc (s : State) (target : Word) : (s.callTo target).pc = target := rfl

@[simp] theorem State.callTo_sp (s : State) (target : Word) :
    (s.callTo target).sp = s.sp - 2#16 := State.sp_push16 s s.pc

@[simp] theorem State.readR8_callTo (s : State) (target : Word) (x : R8) :
    (s.callTo target).readR8 x = s.readR8 x := by
  cases x <;> simp [State.callTo, State.readR8]

theorem State.readByte_callTo (s : State) (target a : Word) :
    (s.callTo target).readByte a = (s.writeWord (s.sp - 2#16) s.pc).readByte a :=
  s.readByte_push16 s.pc a

theorem State.readRp2_popInto (s : State) (p q : Rp2) :
    (s.popInto p).readRp2 q = if q = p then s.readWord s.sp else s.readRp2 q :=
  State.readRp2_writeRp2 { s with sp := s.sp + 2#16 } p q (s.readWord s.sp)

@[simp] theorem State.popInto_sp (s : State) (p : Rp2) : (s.popInto p).sp = s.sp + 2#16 := by
  cases p <;> rfl

@[simp] theorem State.popInto_mem (s : State) (p : Rp2) : (s.popInto p).mem = s.mem := by
  cases p <;> rfl

/-- What is pushed is popped, if both stack bytes store what is written (20_memory.md R45, R46). -/
theorem State.readWord_push16 {s : State} (hm : s.mem.wf) (v : Word)
    (h : writable (s.sp - 2#16) = true) (h1 : writable (s.sp - 2#16 + 1#16) = true) :
    (s.push16 v).readWord (s.push16 v).sp = v := by
  have hw := State.readWord_writeWord hm h h1 v
  unfold State.readWord at hw ⊢
  rwa [State.sp_push16, State.readByte_push16, State.readByte_push16]

/-! ### Placing an instruction (log entry 20) -/

theorem State.readByte_storeRaw {s : State} (hm : s.mem.wf) (a : Word) (v : Byte) (b : Word) :
    (s.storeRaw a v).readByte b =
      if (storageAddress a).isSome ∧ storageAddress b = storageAddress a then v
      else s.readByte b := by
  unfold State.storeRaw
  cases ha : storageAddress a with
  | none => simp
  | some k =>
    unfold State.readByte
    cases hb : storageAddress b with
    | none => simp
    | some j => simp [Memory.get_set hm]

/-- The three bytes from where an instruction is placed own storage. -/
theorem State.placeAt_storage (s : State) :
    (storageAddress s.placeAt).isSome ∧ (storageAddress (s.placeAt + 1#16)).isSome ∧
      (storageAddress (s.placeAt + 2#16)).isSome := by
  unfold State.placeAt
  split
  · rename_i h
    simpa [and_assoc] using h
  · decide

/-- Neighbouring bytes that own storage never share it. -/
theorem storageAddress_add_ne {a : Word} {n : Nat} (h0 : 0 < n) (hn : n < 3)
    (h : (storageAddress a).isSome) (h' : (storageAddress (a + BitVec.ofNat 16 n)).isSome) :
    storageAddress a ≠ storageAddress (a + BitVec.ofNat 16 n) := by
  have ha := a.isLt
  have hs : (a + BitVec.ofNat 16 n).toNat = (a.toNat + n) % 0x10000 := by
    simp [BitVec.toNat_add]
  rw [storageAddress_eq] at h
  rw [storageAddress_eq] at h'
  rw [storageAddress_eq, storageAddress_eq]
  rw [hs] at h' ⊢
  split_ifs at h h' ⊢ <;> simp_all <;> omega

/-- After `placeInstr` the three bytes at PC are the placed ones. -/
theorem State.readByte_placeInstr {s : State} (hm : s.mem.wf) (nbits w : Nat) :
    (s.placeInstr nbits w).readByte (s.placeInstr nbits w).pc = placedByte nbits w 0 ∧
      (s.placeInstr nbits w).readByte ((s.placeInstr nbits w).pc + 1#16) = placedByte nbits w 1 ∧
      (s.placeInstr nbits w).readByte ((s.placeInstr nbits w).pc + 2#16) =
        placedByte nbits w 2 := by
  obtain ⟨h0, h1, h2⟩ := s.placeAt_storage
  have n01 := storageAddress_add_ne (n := 1) (by decide) (by decide) h0 h1
  have n02 := storageAddress_add_ne (n := 2) (by decide) (by decide) h0 h2
  have e : s.placeAt + 1#16 + 1#16 = s.placeAt + 2#16 := by rw [BitVec.add_assoc]; rfl
  have n12 := storageAddress_add_ne (n := 1) (a := s.placeAt + 1#16) (by decide) (by decide) h1
    (by rw [show s.placeAt + 1#16 + BitVec.ofNat 16 1 = s.placeAt + 2#16 from e]; exact h2)
  rw [show s.placeAt + 1#16 + BitVec.ofNat 16 1 = s.placeAt + 2#16 from e] at n12
  have hread : ∀ a, (s.placeInstr nbits w).readByte a =
      (((s.storeRaw s.placeAt (placedByte nbits w 0)).storeRaw (s.placeAt + 1#16)
        (placedByte nbits w 1)).storeRaw (s.placeAt + 2#16) (placedByte nbits w 2)).readByte a :=
    fun a => State.readByte_congr rfl a
  have hm1 := State.wf_storeRaw hm s.placeAt (placedByte nbits w 0)
  have hm2 := State.wf_storeRaw hm1 (s.placeAt + 1#16) (placedByte nbits w 1)
  show _ ∧ (s.placeInstr nbits w).readByte (s.placeAt + 1#16) = _ ∧
    (s.placeInstr nbits w).readByte (s.placeAt + 2#16) = _
  rw [hread, hread, hread]
  simp only [State.readByte_storeRaw hm2, State.readByte_storeRaw hm1, State.readByte_storeRaw hm]
  refine ⟨?_, ?_, ?_⟩
  · rw [if_neg (fun h => n02 h.2), if_neg (fun h => n01 h.2), if_pos ⟨h0, rfl⟩]
  · rw [if_neg (fun h => n12 h.2), if_pos (by simpa using h1)]
  · rw [if_pos (by simpa using h2)]

end Sys2Proof.Machine
end

