-- ==== Sys2Proof/Laws/PerInstr.lean ====
section
/-! SUPPORT. The per-instruction family RoundTrip: decoding the encoding of an instruction gives the
instruction back, whatever bytes follow it. -/

namespace Sys2Proof.Laws

/-- The round trip for one instruction: its encoding, with any bytes after it, decodes to it and
leaves exactly those bytes. A lone prefix is no whole instruction and is left out by `wellFormed`. -/
def RoundTrip.Statement (i : Instr) : Prop :=
  i.wellFormed = true → ∀ rest : List Byte, decode (encode i ++ rest) = .ok (i, rest)

theorem RoundTrip.nop : RoundTrip.Statement .nop :=
  fun _ _ => rfl

theorem RoundTrip.ldBcN16 (n16 : Word) : RoundTrip.Statement (.ldBcN16 n16) :=
  fun _ rest =>
  congrArg (fun v => Except.ok (Instr.ldBcN16 v, rest)) (immediate_bytes n16)

theorem RoundTrip.ldMemBcA : RoundTrip.Statement .ldMemBcA :=
  fun _ _ => rfl

theorem RoundTrip.incBc : RoundTrip.Statement .incBc :=
  fun _ _ => rfl

theorem RoundTrip.incB : RoundTrip.Statement .incB :=
  fun _ _ => rfl

theorem RoundTrip.decB : RoundTrip.Statement .decB :=
  fun _ _ => rfl

theorem RoundTrip.ldBN8 (n8 : Byte) : RoundTrip.Statement (.ldBN8 n8) :=
  fun _ _ => rfl

theorem RoundTrip.rlca : RoundTrip.Statement .rlca :=
  fun _ _ => rfl

theorem RoundTrip.ldMemA16Sp (a16 : Word) : RoundTrip.Statement (.ldMemA16Sp a16) :=
  fun _ rest =>
  congrArg (fun v => Except.ok (Instr.ldMemA16Sp v, rest)) (immediate_bytes a16)

theorem RoundTrip.addHlBc : RoundTrip.Statement .addHlBc :=
  fun _ _ => rfl

theorem RoundTrip.ldAMemBc : RoundTrip.Statement .ldAMemBc :=
  fun _ _ => rfl

theorem RoundTrip.decBc : RoundTrip.Statement .decBc :=
  fun _ _ => rfl

theorem RoundTrip.incC : RoundTrip.Statement .incC :=
  fun _ _ => rfl

theorem RoundTrip.decC : RoundTrip.Statement .decC :=
  fun _ _ => rfl

theorem RoundTrip.ldCN8 (n8 : Byte) : RoundTrip.Statement (.ldCN8 n8) :=
  fun _ _ => rfl

theorem RoundTrip.rrca : RoundTrip.Statement .rrca :=
  fun _ _ => rfl

theorem RoundTrip.stop : RoundTrip.Statement .stop :=
  fun _ _ => rfl

theorem RoundTrip.ldDeN16 (n16 : Word) : RoundTrip.Statement (.ldDeN16 n16) :=
  fun _ rest =>
  congrArg (fun v => Except.ok (Instr.ldDeN16 v, rest)) (immediate_bytes n16)

theorem RoundTrip.ldMemDeA : RoundTrip.Statement .ldMemDeA :=
  fun _ _ => rfl

theorem RoundTrip.incDe : RoundTrip.Statement .incDe :=
  fun _ _ => rfl

theorem RoundTrip.incD : RoundTrip.Statement .incD :=
  fun _ _ => rfl

theorem RoundTrip.decD : RoundTrip.Statement .decD :=
  fun _ _ => rfl

theorem RoundTrip.ldDN8 (n8 : Byte) : RoundTrip.Statement (.ldDN8 n8) :=
  fun _ _ => rfl

theorem RoundTrip.rla : RoundTrip.Statement .rla :=
  fun _ _ => rfl

theorem RoundTrip.jrE8 (e8 : Byte) : RoundTrip.Statement (.jrE8 e8) :=
  fun _ _ => rfl

theorem RoundTrip.addHlDe : RoundTrip.Statement .addHlDe :=
  fun _ _ => rfl

theorem RoundTrip.ldAMemDe : RoundTrip.Statement .ldAMemDe :=
  fun _ _ => rfl

theorem RoundTrip.decDe : RoundTrip.Statement .decDe :=
  fun _ _ => rfl

theorem RoundTrip.incE : RoundTrip.Statement .incE :=
  fun _ _ => rfl

theorem RoundTrip.decE : RoundTrip.Statement .decE :=
  fun _ _ => rfl

theorem RoundTrip.ldEN8 (n8 : Byte) : RoundTrip.Statement (.ldEN8 n8) :=
  fun _ _ => rfl

theorem RoundTrip.rra : RoundTrip.Statement .rra :=
  fun _ _ => rfl

theorem RoundTrip.jrNzE8 (e8 : Byte) : RoundTrip.Statement (.jrNzE8 e8) :=
  fun _ _ => rfl

theorem RoundTrip.ldHlN16 (n16 : Word) : RoundTrip.Statement (.ldHlN16 n16) :=
  fun _ rest =>
  congrArg (fun v => Except.ok (Instr.ldHlN16 v, rest)) (immediate_bytes n16)

theorem RoundTrip.ldMemHlIncA : RoundTrip.Statement .ldMemHlIncA :=
  fun _ _ => rfl

theorem RoundTrip.incHl : RoundTrip.Statement .incHl :=
  fun _ _ => rfl

theorem RoundTrip.incH : RoundTrip.Statement .incH :=
  fun _ _ => rfl

theorem RoundTrip.decH : RoundTrip.Statement .decH :=
  fun _ _ => rfl

theorem RoundTrip.ldHN8 (n8 : Byte) : RoundTrip.Statement (.ldHN8 n8) :=
  fun _ _ => rfl

theorem RoundTrip.daa : RoundTrip.Statement .daa :=
  fun _ _ => rfl

theorem RoundTrip.jrZE8 (e8 : Byte) : RoundTrip.Statement (.jrZE8 e8) :=
  fun _ _ => rfl

theorem RoundTrip.addHlHl : RoundTrip.Statement .addHlHl :=
  fun _ _ => rfl

theorem RoundTrip.ldAMemHlInc : RoundTrip.Statement .ldAMemHlInc :=
  fun _ _ => rfl

theorem RoundTrip.decHl : RoundTrip.Statement .decHl :=
  fun _ _ => rfl

theorem RoundTrip.incL : RoundTrip.Statement .incL :=
  fun _ _ => rfl

theorem RoundTrip.decL : RoundTrip.Statement .decL :=
  fun _ _ => rfl

theorem RoundTrip.ldLN8 (n8 : Byte) : RoundTrip.Statement (.ldLN8 n8) :=
  fun _ _ => rfl

theorem RoundTrip.cpl : RoundTrip.Statement .cpl :=
  fun _ _ => rfl

theorem RoundTrip.jrNcE8 (e8 : Byte) : RoundTrip.Statement (.jrNcE8 e8) :=
  fun _ _ => rfl

theorem RoundTrip.ldSpN16 (n16 : Word) : RoundTrip.Statement (.ldSpN16 n16) :=
  fun _ rest =>
  congrArg (fun v => Except.ok (Instr.ldSpN16 v, rest)) (immediate_bytes n16)

theorem RoundTrip.ldMemHlDecA : RoundTrip.Statement .ldMemHlDecA :=
  fun _ _ => rfl

theorem RoundTrip.incSp : RoundTrip.Statement .incSp :=
  fun _ _ => rfl

theorem RoundTrip.incMemHl : RoundTrip.Statement .incMemHl :=
  fun _ _ => rfl

theorem RoundTrip.decMemHl : RoundTrip.Statement .decMemHl :=
  fun _ _ => rfl

theorem RoundTrip.ldMemHlN8 (n8 : Byte) : RoundTrip.Statement (.ldMemHlN8 n8) :=
  fun _ _ => rfl

theorem RoundTrip.scf : RoundTrip.Statement .scf :=
  fun _ _ => rfl

theorem RoundTrip.jrCE8 (e8 : Byte) : RoundTrip.Statement (.jrCE8 e8) :=
  fun _ _ => rfl

theorem RoundTrip.addHlSp : RoundTrip.Statement .addHlSp :=
  fun _ _ => rfl

theorem RoundTrip.ldAMemHlDec : RoundTrip.Statement .ldAMemHlDec :=
  fun _ _ => rfl

theorem RoundTrip.decSp : RoundTrip.Statement .decSp :=
  fun _ _ => rfl

theorem RoundTrip.incA : RoundTrip.Statement .incA :=
  fun _ _ => rfl

theorem RoundTrip.decA : RoundTrip.Statement .decA :=
  fun _ _ => rfl

theorem RoundTrip.ldAN8 (n8 : Byte) : RoundTrip.Statement (.ldAN8 n8) :=
  fun _ _ => rfl

theorem RoundTrip.ccf : RoundTrip.Statement .ccf :=
  fun _ _ => rfl

theorem RoundTrip.ldBB : RoundTrip.Statement .ldBB :=
  fun _ _ => rfl

theorem RoundTrip.ldBC : RoundTrip.Statement .ldBC :=
  fun _ _ => rfl

theorem RoundTrip.ldBD : RoundTrip.Statement .ldBD :=
  fun _ _ => rfl

theorem RoundTrip.ldBE : RoundTrip.Statement .ldBE :=
  fun _ _ => rfl

theorem RoundTrip.ldBH : RoundTrip.Statement .ldBH :=
  fun _ _ => rfl

theorem RoundTrip.ldBL : RoundTrip.Statement .ldBL :=
  fun _ _ => rfl

theorem RoundTrip.ldBMemHl : RoundTrip.Statement .ldBMemHl :=
  fun _ _ => rfl

theorem RoundTrip.ldBA : RoundTrip.Statement .ldBA :=
  fun _ _ => rfl

theorem RoundTrip.ldCB : RoundTrip.Statement .ldCB :=
  fun _ _ => rfl

theorem RoundTrip.ldCC : RoundTrip.Statement .ldCC :=
  fun _ _ => rfl

theorem RoundTrip.ldCD : RoundTrip.Statement .ldCD :=
  fun _ _ => rfl

theorem RoundTrip.ldCE : RoundTrip.Statement .ldCE :=
  fun _ _ => rfl

theorem RoundTrip.ldCH : RoundTrip.Statement .ldCH :=
  fun _ _ => rfl

theorem RoundTrip.ldCL : RoundTrip.Statement .ldCL :=
  fun _ _ => rfl

theorem RoundTrip.ldCMemHl : RoundTrip.Statement .ldCMemHl :=
  fun _ _ => rfl

theorem RoundTrip.ldCA : RoundTrip.Statement .ldCA :=
  fun _ _ => rfl

theorem RoundTrip.ldDB : RoundTrip.Statement .ldDB :=
  fun _ _ => rfl

theorem RoundTrip.ldDC : RoundTrip.Statement .ldDC :=
  fun _ _ => rfl

theorem RoundTrip.ldDD : RoundTrip.Statement .ldDD :=
  fun _ _ => rfl

theorem RoundTrip.ldDE : RoundTrip.Statement .ldDE :=
  fun _ _ => rfl

theorem RoundTrip.ldDH : RoundTrip.Statement .ldDH :=
  fun _ _ => rfl

theorem RoundTrip.ldDL : RoundTrip.Statement .ldDL :=
  fun _ _ => rfl

theorem RoundTrip.ldDMemHl : RoundTrip.Statement .ldDMemHl :=
  fun _ _ => rfl

theorem RoundTrip.ldDA : RoundTrip.Statement .ldDA :=
  fun _ _ => rfl

theorem RoundTrip.ldEB : RoundTrip.Statement .ldEB :=
  fun _ _ => rfl

theorem RoundTrip.ldEC : RoundTrip.Statement .ldEC :=
  fun _ _ => rfl

theorem RoundTrip.ldED : RoundTrip.Statement .ldED :=
  fun _ _ => rfl

theorem RoundTrip.ldEE : RoundTrip.Statement .ldEE :=
  fun _ _ => rfl

theorem RoundTrip.ldEH : RoundTrip.Statement .ldEH :=
  fun _ _ => rfl

theorem RoundTrip.ldEL : RoundTrip.Statement .ldEL :=
  fun _ _ => rfl

theorem RoundTrip.ldEMemHl : RoundTrip.Statement .ldEMemHl :=
  fun _ _ => rfl

theorem RoundTrip.ldEA : RoundTrip.Statement .ldEA :=
  fun _ _ => rfl

theorem RoundTrip.ldHB : RoundTrip.Statement .ldHB :=
  fun _ _ => rfl

theorem RoundTrip.ldHC : RoundTrip.Statement .ldHC :=
  fun _ _ => rfl

theorem RoundTrip.ldHD : RoundTrip.Statement .ldHD :=
  fun _ _ => rfl

theorem RoundTrip.ldHE : RoundTrip.Statement .ldHE :=
  fun _ _ => rfl

theorem RoundTrip.ldHH : RoundTrip.Statement .ldHH :=
  fun _ _ => rfl

theorem RoundTrip.ldHL : RoundTrip.Statement .ldHL :=
  fun _ _ => rfl

theorem RoundTrip.ldHMemHl : RoundTrip.Statement .ldHMemHl :=
  fun _ _ => rfl

theorem RoundTrip.ldHA : RoundTrip.Statement .ldHA :=
  fun _ _ => rfl

theorem RoundTrip.ldLB : RoundTrip.Statement .ldLB :=
  fun _ _ => rfl

theorem RoundTrip.ldLC : RoundTrip.Statement .ldLC :=
  fun _ _ => rfl

theorem RoundTrip.ldLD : RoundTrip.Statement .ldLD :=
  fun _ _ => rfl

theorem RoundTrip.ldLE : RoundTrip.Statement .ldLE :=
  fun _ _ => rfl

theorem RoundTrip.ldLH : RoundTrip.Statement .ldLH :=
  fun _ _ => rfl

theorem RoundTrip.ldLL : RoundTrip.Statement .ldLL :=
  fun _ _ => rfl

theorem RoundTrip.ldLMemHl : RoundTrip.Statement .ldLMemHl :=
  fun _ _ => rfl

theorem RoundTrip.ldLA : RoundTrip.Statement .ldLA :=
  fun _ _ => rfl

theorem RoundTrip.ldMemHlB : RoundTrip.Statement .ldMemHlB :=
  fun _ _ => rfl

theorem RoundTrip.ldMemHlC : RoundTrip.Statement .ldMemHlC :=
  fun _ _ => rfl

theorem RoundTrip.ldMemHlD : RoundTrip.Statement .ldMemHlD :=
  fun _ _ => rfl

theorem RoundTrip.ldMemHlE : RoundTrip.Statement .ldMemHlE :=
  fun _ _ => rfl

theorem RoundTrip.ldMemHlH : RoundTrip.Statement .ldMemHlH :=
  fun _ _ => rfl

theorem RoundTrip.ldMemHlL : RoundTrip.Statement .ldMemHlL :=
  fun _ _ => rfl

theorem RoundTrip.halt : RoundTrip.Statement .halt :=
  fun _ _ => rfl

theorem RoundTrip.ldMemHlA : RoundTrip.Statement .ldMemHlA :=
  fun _ _ => rfl

theorem RoundTrip.ldAB : RoundTrip.Statement .ldAB :=
  fun _ _ => rfl

theorem RoundTrip.ldAC : RoundTrip.Statement .ldAC :=
  fun _ _ => rfl

theorem RoundTrip.ldAD : RoundTrip.Statement .ldAD :=
  fun _ _ => rfl

theorem RoundTrip.ldAE : RoundTrip.Statement .ldAE :=
  fun _ _ => rfl

theorem RoundTrip.ldAH : RoundTrip.Statement .ldAH :=
  fun _ _ => rfl

theorem RoundTrip.ldAL : RoundTrip.Statement .ldAL :=
  fun _ _ => rfl

theorem RoundTrip.ldAMemHl : RoundTrip.Statement .ldAMemHl :=
  fun _ _ => rfl

theorem RoundTrip.ldAA : RoundTrip.Statement .ldAA :=
  fun _ _ => rfl

theorem RoundTrip.addAB : RoundTrip.Statement .addAB :=
  fun _ _ => rfl

theorem RoundTrip.addAC : RoundTrip.Statement .addAC :=
  fun _ _ => rfl

theorem RoundTrip.addAD : RoundTrip.Statement .addAD :=
  fun _ _ => rfl

theorem RoundTrip.addAE : RoundTrip.Statement .addAE :=
  fun _ _ => rfl

theorem RoundTrip.addAH : RoundTrip.Statement .addAH :=
  fun _ _ => rfl

theorem RoundTrip.addAL : RoundTrip.Statement .addAL :=
  fun _ _ => rfl

theorem RoundTrip.addAMemHl : RoundTrip.Statement .addAMemHl :=
  fun _ _ => rfl

theorem RoundTrip.addAA : RoundTrip.Statement .addAA :=
  fun _ _ => rfl

theorem RoundTrip.adcAB : RoundTrip.Statement .adcAB :=
  fun _ _ => rfl

theorem RoundTrip.adcAC : RoundTrip.Statement .adcAC :=
  fun _ _ => rfl

theorem RoundTrip.adcAD : RoundTrip.Statement .adcAD :=
  fun _ _ => rfl

theorem RoundTrip.adcAE : RoundTrip.Statement .adcAE :=
  fun _ _ => rfl

theorem RoundTrip.adcAH : RoundTrip.Statement .adcAH :=
  fun _ _ => rfl

theorem RoundTrip.adcAL : RoundTrip.Statement .adcAL :=
  fun _ _ => rfl

theorem RoundTrip.adcAMemHl : RoundTrip.Statement .adcAMemHl :=
  fun _ _ => rfl

theorem RoundTrip.adcAA : RoundTrip.Statement .adcAA :=
  fun _ _ => rfl

theorem RoundTrip.subB : RoundTrip.Statement .subB :=
  fun _ _ => rfl

theorem RoundTrip.subC : RoundTrip.Statement .subC :=
  fun _ _ => rfl

theorem RoundTrip.subD : RoundTrip.Statement .subD :=
  fun _ _ => rfl

theorem RoundTrip.subE : RoundTrip.Statement .subE :=
  fun _ _ => rfl

theorem RoundTrip.subH : RoundTrip.Statement .subH :=
  fun _ _ => rfl

theorem RoundTrip.subL : RoundTrip.Statement .subL :=
  fun _ _ => rfl

theorem RoundTrip.subMemHl : RoundTrip.Statement .subMemHl :=
  fun _ _ => rfl

theorem RoundTrip.subA : RoundTrip.Statement .subA :=
  fun _ _ => rfl

theorem RoundTrip.sbcAB : RoundTrip.Statement .sbcAB :=
  fun _ _ => rfl

theorem RoundTrip.sbcAC : RoundTrip.Statement .sbcAC :=
  fun _ _ => rfl

theorem RoundTrip.sbcAD : RoundTrip.Statement .sbcAD :=
  fun _ _ => rfl

theorem RoundTrip.sbcAE : RoundTrip.Statement .sbcAE :=
  fun _ _ => rfl

theorem RoundTrip.sbcAH : RoundTrip.Statement .sbcAH :=
  fun _ _ => rfl

theorem RoundTrip.sbcAL : RoundTrip.Statement .sbcAL :=
  fun _ _ => rfl

theorem RoundTrip.sbcAMemHl : RoundTrip.Statement .sbcAMemHl :=
  fun _ _ => rfl

theorem RoundTrip.sbcAA : RoundTrip.Statement .sbcAA :=
  fun _ _ => rfl

theorem RoundTrip.andB : RoundTrip.Statement .andB :=
  fun _ _ => rfl

theorem RoundTrip.andC : RoundTrip.Statement .andC :=
  fun _ _ => rfl

theorem RoundTrip.andD : RoundTrip.Statement .andD :=
  fun _ _ => rfl

theorem RoundTrip.andE : RoundTrip.Statement .andE :=
  fun _ _ => rfl

theorem RoundTrip.andH : RoundTrip.Statement .andH :=
  fun _ _ => rfl

theorem RoundTrip.andL : RoundTrip.Statement .andL :=
  fun _ _ => rfl

theorem RoundTrip.andMemHl : RoundTrip.Statement .andMemHl :=
  fun _ _ => rfl

theorem RoundTrip.andA : RoundTrip.Statement .andA :=
  fun _ _ => rfl

theorem RoundTrip.xorB : RoundTrip.Statement .xorB :=
  fun _ _ => rfl

theorem RoundTrip.xorC : RoundTrip.Statement .xorC :=
  fun _ _ => rfl

theorem RoundTrip.xorD : RoundTrip.Statement .xorD :=
  fun _ _ => rfl

theorem RoundTrip.xorE : RoundTrip.Statement .xorE :=
  fun _ _ => rfl

theorem RoundTrip.xorH : RoundTrip.Statement .xorH :=
  fun _ _ => rfl

theorem RoundTrip.xorL : RoundTrip.Statement .xorL :=
  fun _ _ => rfl

theorem RoundTrip.xorMemHl : RoundTrip.Statement .xorMemHl :=
  fun _ _ => rfl

theorem RoundTrip.xorA : RoundTrip.Statement .xorA :=
  fun _ _ => rfl

theorem RoundTrip.orB : RoundTrip.Statement .orB :=
  fun _ _ => rfl

theorem RoundTrip.orC : RoundTrip.Statement .orC :=
  fun _ _ => rfl

theorem RoundTrip.orD : RoundTrip.Statement .orD :=
  fun _ _ => rfl

theorem RoundTrip.orE : RoundTrip.Statement .orE :=
  fun _ _ => rfl

theorem RoundTrip.orH : RoundTrip.Statement .orH :=
  fun _ _ => rfl

theorem RoundTrip.orL : RoundTrip.Statement .orL :=
  fun _ _ => rfl

theorem RoundTrip.orMemHl : RoundTrip.Statement .orMemHl :=
  fun _ _ => rfl

theorem RoundTrip.orA : RoundTrip.Statement .orA :=
  fun _ _ => rfl

theorem RoundTrip.cpB : RoundTrip.Statement .cpB :=
  fun _ _ => rfl

theorem RoundTrip.cpC : RoundTrip.Statement .cpC :=
  fun _ _ => rfl

theorem RoundTrip.cpD : RoundTrip.Statement .cpD :=
  fun _ _ => rfl

theorem RoundTrip.cpE : RoundTrip.Statement .cpE :=
  fun _ _ => rfl

theorem RoundTrip.cpH : RoundTrip.Statement .cpH :=
  fun _ _ => rfl

theorem RoundTrip.cpL : RoundTrip.Statement .cpL :=
  fun _ _ => rfl

theorem RoundTrip.cpMemHl : RoundTrip.Statement .cpMemHl :=
  fun _ _ => rfl

theorem RoundTrip.cpA : RoundTrip.Statement .cpA :=
  fun _ _ => rfl

theorem RoundTrip.retNz : RoundTrip.Statement .retNz :=
  fun _ _ => rfl

theorem RoundTrip.popBc : RoundTrip.Statement .popBc :=
  fun _ _ => rfl

theorem RoundTrip.jpNzA16 (a16 : Word) : RoundTrip.Statement (.jpNzA16 a16) :=
  fun _ rest =>
  congrArg (fun v => Except.ok (Instr.jpNzA16 v, rest)) (immediate_bytes a16)

theorem RoundTrip.jpA16 (a16 : Word) : RoundTrip.Statement (.jpA16 a16) :=
  fun _ rest =>
  congrArg (fun v => Except.ok (Instr.jpA16 v, rest)) (immediate_bytes a16)

theorem RoundTrip.callNzA16 (a16 : Word) : RoundTrip.Statement (.callNzA16 a16) :=
  fun _ rest =>
  congrArg (fun v => Except.ok (Instr.callNzA16 v, rest)) (immediate_bytes a16)

theorem RoundTrip.pushBc : RoundTrip.Statement .pushBc :=
  fun _ _ => rfl

theorem RoundTrip.addAN8 (n8 : Byte) : RoundTrip.Statement (.addAN8 n8) :=
  fun _ _ => rfl

theorem RoundTrip.rst00 : RoundTrip.Statement .rst00 :=
  fun _ _ => rfl

theorem RoundTrip.retZ : RoundTrip.Statement .retZ :=
  fun _ _ => rfl

theorem RoundTrip.ret : RoundTrip.Statement .ret :=
  fun _ _ => rfl

theorem RoundTrip.jpZA16 (a16 : Word) : RoundTrip.Statement (.jpZA16 a16) :=
  fun _ rest =>
  congrArg (fun v => Except.ok (Instr.jpZA16 v, rest)) (immediate_bytes a16)

theorem RoundTrip.prefixCb : RoundTrip.Statement .prefixCb :=
  fun h => absurd h (by decide)

theorem RoundTrip.callZA16 (a16 : Word) : RoundTrip.Statement (.callZA16 a16) :=
  fun _ rest =>
  congrArg (fun v => Except.ok (Instr.callZA16 v, rest)) (immediate_bytes a16)

theorem RoundTrip.callA16 (a16 : Word) : RoundTrip.Statement (.callA16 a16) :=
  fun _ rest =>
  congrArg (fun v => Except.ok (Instr.callA16 v, rest)) (immediate_bytes a16)

theorem RoundTrip.adcAN8 (n8 : Byte) : RoundTrip.Statement (.adcAN8 n8) :=
  fun _ _ => rfl

theorem RoundTrip.rst08 : RoundTrip.Statement .rst08 :=
  fun _ _ => rfl

theorem RoundTrip.retNc : RoundTrip.Statement .retNc :=
  fun _ _ => rfl

theorem RoundTrip.popDe : RoundTrip.Statement .popDe :=
  fun _ _ => rfl

theorem RoundTrip.jpNcA16 (a16 : Word) : RoundTrip.Statement (.jpNcA16 a16) :=
  fun _ rest =>
  congrArg (fun v => Except.ok (Instr.jpNcA16 v, rest)) (immediate_bytes a16)

theorem RoundTrip.illegalD3 : RoundTrip.Statement .illegalD3 :=
  fun _ _ => rfl

theorem RoundTrip.callNcA16 (a16 : Word) : RoundTrip.Statement (.callNcA16 a16) :=
  fun _ rest =>
  congrArg (fun v => Except.ok (Instr.callNcA16 v, rest)) (immediate_bytes a16)

theorem RoundTrip.pushDe : RoundTrip.Statement .pushDe :=
  fun _ _ => rfl

theorem RoundTrip.subN8 (n8 : Byte) : RoundTrip.Statement (.subN8 n8) :=
  fun _ _ => rfl

theorem RoundTrip.rst10 : RoundTrip.Statement .rst10 :=
  fun _ _ => rfl

theorem RoundTrip.retC : RoundTrip.Statement .retC :=
  fun _ _ => rfl

theorem RoundTrip.reti : RoundTrip.Statement .reti :=
  fun _ _ => rfl

theorem RoundTrip.jpCA16 (a16 : Word) : RoundTrip.Statement (.jpCA16 a16) :=
  fun _ rest =>
  congrArg (fun v => Except.ok (Instr.jpCA16 v, rest)) (immediate_bytes a16)

theorem RoundTrip.illegalDB : RoundTrip.Statement .illegalDB :=
  fun _ _ => rfl

theorem RoundTrip.callCA16 (a16 : Word) : RoundTrip.Statement (.callCA16 a16) :=
  fun _ rest =>
  congrArg (fun v => Except.ok (Instr.callCA16 v, rest)) (immediate_bytes a16)

theorem RoundTrip.illegalDD : RoundTrip.Statement .illegalDD :=
  fun _ _ => rfl

theorem RoundTrip.sbcAN8 (n8 : Byte) : RoundTrip.Statement (.sbcAN8 n8) :=
  fun _ _ => rfl

theorem RoundTrip.rst18 : RoundTrip.Statement .rst18 :=
  fun _ _ => rfl

theorem RoundTrip.ldhMemA8A (a8 : Byte) : RoundTrip.Statement (.ldhMemA8A a8) :=
  fun _ _ => rfl

theorem RoundTrip.popHl : RoundTrip.Statement .popHl :=
  fun _ _ => rfl

theorem RoundTrip.ldMemCA : RoundTrip.Statement .ldMemCA :=
  fun _ _ => rfl

theorem RoundTrip.illegalE3 : RoundTrip.Statement .illegalE3 :=
  fun _ _ => rfl

theorem RoundTrip.illegalE4 : RoundTrip.Statement .illegalE4 :=
  fun _ _ => rfl

theorem RoundTrip.pushHl : RoundTrip.Statement .pushHl :=
  fun _ _ => rfl

theorem RoundTrip.andN8 (n8 : Byte) : RoundTrip.Statement (.andN8 n8) :=
  fun _ _ => rfl

theorem RoundTrip.rst20 : RoundTrip.Statement .rst20 :=
  fun _ _ => rfl

theorem RoundTrip.addSpE8 (e8 : Byte) : RoundTrip.Statement (.addSpE8 e8) :=
  fun _ _ => rfl

theorem RoundTrip.jpHl : RoundTrip.Statement .jpHl :=
  fun _ _ => rfl

theorem RoundTrip.ldMemA16A (a16 : Word) : RoundTrip.Statement (.ldMemA16A a16) :=
  fun _ rest =>
  congrArg (fun v => Except.ok (Instr.ldMemA16A v, rest)) (immediate_bytes a16)

theorem RoundTrip.illegalEB : RoundTrip.Statement .illegalEB :=
  fun _ _ => rfl

theorem RoundTrip.illegalEC : RoundTrip.Statement .illegalEC :=
  fun _ _ => rfl

theorem RoundTrip.illegalED : RoundTrip.Statement .illegalED :=
  fun _ _ => rfl

theorem RoundTrip.xorN8 (n8 : Byte) : RoundTrip.Statement (.xorN8 n8) :=
  fun _ _ => rfl

theorem RoundTrip.rst28 : RoundTrip.Statement .rst28 :=
  fun _ _ => rfl

theorem RoundTrip.ldhAMemA8 (a8 : Byte) : RoundTrip.Statement (.ldhAMemA8 a8) :=
  fun _ _ => rfl

theorem RoundTrip.popAf : RoundTrip.Statement .popAf :=
  fun _ _ => rfl

theorem RoundTrip.ldAMemC : RoundTrip.Statement .ldAMemC :=
  fun _ _ => rfl

theorem RoundTrip.di : RoundTrip.Statement .di :=
  fun _ _ => rfl

theorem RoundTrip.illegalF4 : RoundTrip.Statement .illegalF4 :=
  fun _ _ => rfl

theorem RoundTrip.pushAf : RoundTrip.Statement .pushAf :=
  fun _ _ => rfl

theorem RoundTrip.orN8 (n8 : Byte) : RoundTrip.Statement (.orN8 n8) :=
  fun _ _ => rfl

theorem RoundTrip.rst30 : RoundTrip.Statement .rst30 :=
  fun _ _ => rfl

theorem RoundTrip.ldHlSpE8 (e8 : Byte) : RoundTrip.Statement (.ldHlSpE8 e8) :=
  fun _ _ => rfl

theorem RoundTrip.ldSpHl : RoundTrip.Statement .ldSpHl :=
  fun _ _ => rfl

theorem RoundTrip.ldAMemA16 (a16 : Word) : RoundTrip.Statement (.ldAMemA16 a16) :=
  fun _ rest =>
  congrArg (fun v => Except.ok (Instr.ldAMemA16 v, rest)) (immediate_bytes a16)

theorem RoundTrip.ei : RoundTrip.Statement .ei :=
  fun _ _ => rfl

theorem RoundTrip.illegalFC : RoundTrip.Statement .illegalFC :=
  fun _ _ => rfl

theorem RoundTrip.illegalFD : RoundTrip.Statement .illegalFD :=
  fun _ _ => rfl

theorem RoundTrip.cpN8 (n8 : Byte) : RoundTrip.Statement (.cpN8 n8) :=
  fun _ _ => rfl

theorem RoundTrip.rst38 : RoundTrip.Statement .rst38 :=
  fun _ _ => rfl

theorem RoundTrip.rlcB : RoundTrip.Statement .rlcB :=
  fun _ _ => rfl

theorem RoundTrip.rlcC : RoundTrip.Statement .rlcC :=
  fun _ _ => rfl

theorem RoundTrip.rlcD : RoundTrip.Statement .rlcD :=
  fun _ _ => rfl

theorem RoundTrip.rlcE : RoundTrip.Statement .rlcE :=
  fun _ _ => rfl

theorem RoundTrip.rlcH : RoundTrip.Statement .rlcH :=
  fun _ _ => rfl

theorem RoundTrip.rlcL : RoundTrip.Statement .rlcL :=
  fun _ _ => rfl

theorem RoundTrip.rlcMemHl : RoundTrip.Statement .rlcMemHl :=
  fun _ _ => rfl

theorem RoundTrip.rlcA : RoundTrip.Statement .rlcA :=
  fun _ _ => rfl

theorem RoundTrip.rrcB : RoundTrip.Statement .rrcB :=
  fun _ _ => rfl

theorem RoundTrip.rrcC : RoundTrip.Statement .rrcC :=
  fun _ _ => rfl

theorem RoundTrip.rrcD : RoundTrip.Statement .rrcD :=
  fun _ _ => rfl

theorem RoundTrip.rrcE : RoundTrip.Statement .rrcE :=
  fun _ _ => rfl

theorem RoundTrip.rrcH : RoundTrip.Statement .rrcH :=
  fun _ _ => rfl

theorem RoundTrip.rrcL : RoundTrip.Statement .rrcL :=
  fun _ _ => rfl

theorem RoundTrip.rrcMemHl : RoundTrip.Statement .rrcMemHl :=
  fun _ _ => rfl

theorem RoundTrip.rrcA : RoundTrip.Statement .rrcA :=
  fun _ _ => rfl

theorem RoundTrip.rlB : RoundTrip.Statement .rlB :=
  fun _ _ => rfl

theorem RoundTrip.rlC : RoundTrip.Statement .rlC :=
  fun _ _ => rfl

theorem RoundTrip.rlD : RoundTrip.Statement .rlD :=
  fun _ _ => rfl

theorem RoundTrip.rlE : RoundTrip.Statement .rlE :=
  fun _ _ => rfl

theorem RoundTrip.rlH : RoundTrip.Statement .rlH :=
  fun _ _ => rfl

theorem RoundTrip.rlL : RoundTrip.Statement .rlL :=
  fun _ _ => rfl

theorem RoundTrip.rlMemHl : RoundTrip.Statement .rlMemHl :=
  fun _ _ => rfl

theorem RoundTrip.rlA : RoundTrip.Statement .rlA :=
  fun _ _ => rfl

theorem RoundTrip.rrB : RoundTrip.Statement .rrB :=
  fun _ _ => rfl

theorem RoundTrip.rrC : RoundTrip.Statement .rrC :=
  fun _ _ => rfl

theorem RoundTrip.rrD : RoundTrip.Statement .rrD :=
  fun _ _ => rfl

theorem RoundTrip.rrE : RoundTrip.Statement .rrE :=
  fun _ _ => rfl

theorem RoundTrip.rrH : RoundTrip.Statement .rrH :=
  fun _ _ => rfl

theorem RoundTrip.rrL : RoundTrip.Statement .rrL :=
  fun _ _ => rfl

theorem RoundTrip.rrMemHl : RoundTrip.Statement .rrMemHl :=
  fun _ _ => rfl

theorem RoundTrip.rrA : RoundTrip.Statement .rrA :=
  fun _ _ => rfl

theorem RoundTrip.slaB : RoundTrip.Statement .slaB :=
  fun _ _ => rfl

theorem RoundTrip.slaC : RoundTrip.Statement .slaC :=
  fun _ _ => rfl

theorem RoundTrip.slaD : RoundTrip.Statement .slaD :=
  fun _ _ => rfl

theorem RoundTrip.slaE : RoundTrip.Statement .slaE :=
  fun _ _ => rfl

theorem RoundTrip.slaH : RoundTrip.Statement .slaH :=
  fun _ _ => rfl

theorem RoundTrip.slaL : RoundTrip.Statement .slaL :=
  fun _ _ => rfl

theorem RoundTrip.slaMemHl : RoundTrip.Statement .slaMemHl :=
  fun _ _ => rfl

theorem RoundTrip.slaA : RoundTrip.Statement .slaA :=
  fun _ _ => rfl

theorem RoundTrip.sraB : RoundTrip.Statement .sraB :=
  fun _ _ => rfl

theorem RoundTrip.sraC : RoundTrip.Statement .sraC :=
  fun _ _ => rfl

theorem RoundTrip.sraD : RoundTrip.Statement .sraD :=
  fun _ _ => rfl

theorem RoundTrip.sraE : RoundTrip.Statement .sraE :=
  fun _ _ => rfl

theorem RoundTrip.sraH : RoundTrip.Statement .sraH :=
  fun _ _ => rfl

theorem RoundTrip.sraL : RoundTrip.Statement .sraL :=
  fun _ _ => rfl

theorem RoundTrip.sraMemHl : RoundTrip.Statement .sraMemHl :=
  fun _ _ => rfl

theorem RoundTrip.sraA : RoundTrip.Statement .sraA :=
  fun _ _ => rfl

theorem RoundTrip.swapB : RoundTrip.Statement .swapB :=
  fun _ _ => rfl

theorem RoundTrip.swapC : RoundTrip.Statement .swapC :=
  fun _ _ => rfl

theorem RoundTrip.swapD : RoundTrip.Statement .swapD :=
  fun _ _ => rfl

theorem RoundTrip.swapE : RoundTrip.Statement .swapE :=
  fun _ _ => rfl

theorem RoundTrip.swapH : RoundTrip.Statement .swapH :=
  fun _ _ => rfl

theorem RoundTrip.swapL : RoundTrip.Statement .swapL :=
  fun _ _ => rfl

theorem RoundTrip.swapMemHl : RoundTrip.Statement .swapMemHl :=
  fun _ _ => rfl

theorem RoundTrip.swapA : RoundTrip.Statement .swapA :=
  fun _ _ => rfl

theorem RoundTrip.srlB : RoundTrip.Statement .srlB :=
  fun _ _ => rfl

theorem RoundTrip.srlC : RoundTrip.Statement .srlC :=
  fun _ _ => rfl

theorem RoundTrip.srlD : RoundTrip.Statement .srlD :=
  fun _ _ => rfl

theorem RoundTrip.srlE : RoundTrip.Statement .srlE :=
  fun _ _ => rfl

theorem RoundTrip.srlH : RoundTrip.Statement .srlH :=
  fun _ _ => rfl

theorem RoundTrip.srlL : RoundTrip.Statement .srlL :=
  fun _ _ => rfl

theorem RoundTrip.srlMemHl : RoundTrip.Statement .srlMemHl :=
  fun _ _ => rfl

theorem RoundTrip.srlA : RoundTrip.Statement .srlA :=
  fun _ _ => rfl

theorem RoundTrip.bit0B : RoundTrip.Statement .bit0B :=
  fun _ _ => rfl

theorem RoundTrip.bit0C : RoundTrip.Statement .bit0C :=
  fun _ _ => rfl

theorem RoundTrip.bit0D : RoundTrip.Statement .bit0D :=
  fun _ _ => rfl

theorem RoundTrip.bit0E : RoundTrip.Statement .bit0E :=
  fun _ _ => rfl

theorem RoundTrip.bit0H : RoundTrip.Statement .bit0H :=
  fun _ _ => rfl

theorem RoundTrip.bit0L : RoundTrip.Statement .bit0L :=
  fun _ _ => rfl

theorem RoundTrip.bit0MemHl : RoundTrip.Statement .bit0MemHl :=
  fun _ _ => rfl

theorem RoundTrip.bit0A : RoundTrip.Statement .bit0A :=
  fun _ _ => rfl

theorem RoundTrip.bit1B : RoundTrip.Statement .bit1B :=
  fun _ _ => rfl

theorem RoundTrip.bit1C : RoundTrip.Statement .bit1C :=
  fun _ _ => rfl

theorem RoundTrip.bit1D : RoundTrip.Statement .bit1D :=
  fun _ _ => rfl

theorem RoundTrip.bit1E : RoundTrip.Statement .bit1E :=
  fun _ _ => rfl

theorem RoundTrip.bit1H : RoundTrip.Statement .bit1H :=
  fun _ _ => rfl

theorem RoundTrip.bit1L : RoundTrip.Statement .bit1L :=
  fun _ _ => rfl

theorem RoundTrip.bit1MemHl : RoundTrip.Statement .bit1MemHl :=
  fun _ _ => rfl

theorem RoundTrip.bit1A : RoundTrip.Statement .bit1A :=
  fun _ _ => rfl

theorem RoundTrip.bit2B : RoundTrip.Statement .bit2B :=
  fun _ _ => rfl

theorem RoundTrip.bit2C : RoundTrip.Statement .bit2C :=
  fun _ _ => rfl

theorem RoundTrip.bit2D : RoundTrip.Statement .bit2D :=
  fun _ _ => rfl

theorem RoundTrip.bit2E : RoundTrip.Statement .bit2E :=
  fun _ _ => rfl

theorem RoundTrip.bit2H : RoundTrip.Statement .bit2H :=
  fun _ _ => rfl

theorem RoundTrip.bit2L : RoundTrip.Statement .bit2L :=
  fun _ _ => rfl

theorem RoundTrip.bit2MemHl : RoundTrip.Statement .bit2MemHl :=
  fun _ _ => rfl

theorem RoundTrip.bit2A : RoundTrip.Statement .bit2A :=
  fun _ _ => rfl

theorem RoundTrip.bit3B : RoundTrip.Statement .bit3B :=
  fun _ _ => rfl

theorem RoundTrip.bit3C : RoundTrip.Statement .bit3C :=
  fun _ _ => rfl

theorem RoundTrip.bit3D : RoundTrip.Statement .bit3D :=
  fun _ _ => rfl

theorem RoundTrip.bit3E : RoundTrip.Statement .bit3E :=
  fun _ _ => rfl

theorem RoundTrip.bit3H : RoundTrip.Statement .bit3H :=
  fun _ _ => rfl

theorem RoundTrip.bit3L : RoundTrip.Statement .bit3L :=
  fun _ _ => rfl

theorem RoundTrip.bit3MemHl : RoundTrip.Statement .bit3MemHl :=
  fun _ _ => rfl

theorem RoundTrip.bit3A : RoundTrip.Statement .bit3A :=
  fun _ _ => rfl

theorem RoundTrip.bit4B : RoundTrip.Statement .bit4B :=
  fun _ _ => rfl

theorem RoundTrip.bit4C : RoundTrip.Statement .bit4C :=
  fun _ _ => rfl

theorem RoundTrip.bit4D : RoundTrip.Statement .bit4D :=
  fun _ _ => rfl

theorem RoundTrip.bit4E : RoundTrip.Statement .bit4E :=
  fun _ _ => rfl

theorem RoundTrip.bit4H : RoundTrip.Statement .bit4H :=
  fun _ _ => rfl

theorem RoundTrip.bit4L : RoundTrip.Statement .bit4L :=
  fun _ _ => rfl

theorem RoundTrip.bit4MemHl : RoundTrip.Statement .bit4MemHl :=
  fun _ _ => rfl

theorem RoundTrip.bit4A : RoundTrip.Statement .bit4A :=
  fun _ _ => rfl

theorem RoundTrip.bit5B : RoundTrip.Statement .bit5B :=
  fun _ _ => rfl

theorem RoundTrip.bit5C : RoundTrip.Statement .bit5C :=
  fun _ _ => rfl

theorem RoundTrip.bit5D : RoundTrip.Statement .bit5D :=
  fun _ _ => rfl

theorem RoundTrip.bit5E : RoundTrip.Statement .bit5E :=
  fun _ _ => rfl

theorem RoundTrip.bit5H : RoundTrip.Statement .bit5H :=
  fun _ _ => rfl

theorem RoundTrip.bit5L : RoundTrip.Statement .bit5L :=
  fun _ _ => rfl

theorem RoundTrip.bit5MemHl : RoundTrip.Statement .bit5MemHl :=
  fun _ _ => rfl

theorem RoundTrip.bit5A : RoundTrip.Statement .bit5A :=
  fun _ _ => rfl

theorem RoundTrip.bit6B : RoundTrip.Statement .bit6B :=
  fun _ _ => rfl

theorem RoundTrip.bit6C : RoundTrip.Statement .bit6C :=
  fun _ _ => rfl

theorem RoundTrip.bit6D : RoundTrip.Statement .bit6D :=
  fun _ _ => rfl

theorem RoundTrip.bit6E : RoundTrip.Statement .bit6E :=
  fun _ _ => rfl

theorem RoundTrip.bit6H : RoundTrip.Statement .bit6H :=
  fun _ _ => rfl

theorem RoundTrip.bit6L : RoundTrip.Statement .bit6L :=
  fun _ _ => rfl

theorem RoundTrip.bit6MemHl : RoundTrip.Statement .bit6MemHl :=
  fun _ _ => rfl

theorem RoundTrip.bit6A : RoundTrip.Statement .bit6A :=
  fun _ _ => rfl

theorem RoundTrip.bit7B : RoundTrip.Statement .bit7B :=
  fun _ _ => rfl

theorem RoundTrip.bit7C : RoundTrip.Statement .bit7C :=
  fun _ _ => rfl

theorem RoundTrip.bit7D : RoundTrip.Statement .bit7D :=
  fun _ _ => rfl

theorem RoundTrip.bit7E : RoundTrip.Statement .bit7E :=
  fun _ _ => rfl

theorem RoundTrip.bit7H : RoundTrip.Statement .bit7H :=
  fun _ _ => rfl

theorem RoundTrip.bit7L : RoundTrip.Statement .bit7L :=
  fun _ _ => rfl

theorem RoundTrip.bit7MemHl : RoundTrip.Statement .bit7MemHl :=
  fun _ _ => rfl

theorem RoundTrip.bit7A : RoundTrip.Statement .bit7A :=
  fun _ _ => rfl

theorem RoundTrip.res0B : RoundTrip.Statement .res0B :=
  fun _ _ => rfl

theorem RoundTrip.res0C : RoundTrip.Statement .res0C :=
  fun _ _ => rfl

theorem RoundTrip.res0D : RoundTrip.Statement .res0D :=
  fun _ _ => rfl

theorem RoundTrip.res0E : RoundTrip.Statement .res0E :=
  fun _ _ => rfl

theorem RoundTrip.res0H : RoundTrip.Statement .res0H :=
  fun _ _ => rfl

theorem RoundTrip.res0L : RoundTrip.Statement .res0L :=
  fun _ _ => rfl

theorem RoundTrip.res0MemHl : RoundTrip.Statement .res0MemHl :=
  fun _ _ => rfl

theorem RoundTrip.res0A : RoundTrip.Statement .res0A :=
  fun _ _ => rfl

theorem RoundTrip.res1B : RoundTrip.Statement .res1B :=
  fun _ _ => rfl

theorem RoundTrip.res1C : RoundTrip.Statement .res1C :=
  fun _ _ => rfl

theorem RoundTrip.res1D : RoundTrip.Statement .res1D :=
  fun _ _ => rfl

theorem RoundTrip.res1E : RoundTrip.Statement .res1E :=
  fun _ _ => rfl

theorem RoundTrip.res1H : RoundTrip.Statement .res1H :=
  fun _ _ => rfl

theorem RoundTrip.res1L : RoundTrip.Statement .res1L :=
  fun _ _ => rfl

theorem RoundTrip.res1MemHl : RoundTrip.Statement .res1MemHl :=
  fun _ _ => rfl

theorem RoundTrip.res1A : RoundTrip.Statement .res1A :=
  fun _ _ => rfl

theorem RoundTrip.res2B : RoundTrip.Statement .res2B :=
  fun _ _ => rfl

theorem RoundTrip.res2C : RoundTrip.Statement .res2C :=
  fun _ _ => rfl

theorem RoundTrip.res2D : RoundTrip.Statement .res2D :=
  fun _ _ => rfl

theorem RoundTrip.res2E : RoundTrip.Statement .res2E :=
  fun _ _ => rfl

theorem RoundTrip.res2H : RoundTrip.Statement .res2H :=
  fun _ _ => rfl

theorem RoundTrip.res2L : RoundTrip.Statement .res2L :=
  fun _ _ => rfl

theorem RoundTrip.res2MemHl : RoundTrip.Statement .res2MemHl :=
  fun _ _ => rfl

theorem RoundTrip.res2A : RoundTrip.Statement .res2A :=
  fun _ _ => rfl

theorem RoundTrip.res3B : RoundTrip.Statement .res3B :=
  fun _ _ => rfl

theorem RoundTrip.res3C : RoundTrip.Statement .res3C :=
  fun _ _ => rfl

theorem RoundTrip.res3D : RoundTrip.Statement .res3D :=
  fun _ _ => rfl

theorem RoundTrip.res3E : RoundTrip.Statement .res3E :=
  fun _ _ => rfl

theorem RoundTrip.res3H : RoundTrip.Statement .res3H :=
  fun _ _ => rfl

theorem RoundTrip.res3L : RoundTrip.Statement .res3L :=
  fun _ _ => rfl

theorem RoundTrip.res3MemHl : RoundTrip.Statement .res3MemHl :=
  fun _ _ => rfl

theorem RoundTrip.res3A : RoundTrip.Statement .res3A :=
  fun _ _ => rfl

theorem RoundTrip.res4B : RoundTrip.Statement .res4B :=
  fun _ _ => rfl

theorem RoundTrip.res4C : RoundTrip.Statement .res4C :=
  fun _ _ => rfl

theorem RoundTrip.res4D : RoundTrip.Statement .res4D :=
  fun _ _ => rfl

theorem RoundTrip.res4E : RoundTrip.Statement .res4E :=
  fun _ _ => rfl

theorem RoundTrip.res4H : RoundTrip.Statement .res4H :=
  fun _ _ => rfl

theorem RoundTrip.res4L : RoundTrip.Statement .res4L :=
  fun _ _ => rfl

theorem RoundTrip.res4MemHl : RoundTrip.Statement .res4MemHl :=
  fun _ _ => rfl

theorem RoundTrip.res4A : RoundTrip.Statement .res4A :=
  fun _ _ => rfl

theorem RoundTrip.res5B : RoundTrip.Statement .res5B :=
  fun _ _ => rfl

theorem RoundTrip.res5C : RoundTrip.Statement .res5C :=
  fun _ _ => rfl

theorem RoundTrip.res5D : RoundTrip.Statement .res5D :=
  fun _ _ => rfl

theorem RoundTrip.res5E : RoundTrip.Statement .res5E :=
  fun _ _ => rfl

theorem RoundTrip.res5H : RoundTrip.Statement .res5H :=
  fun _ _ => rfl

theorem RoundTrip.res5L : RoundTrip.Statement .res5L :=
  fun _ _ => rfl

theorem RoundTrip.res5MemHl : RoundTrip.Statement .res5MemHl :=
  fun _ _ => rfl

theorem RoundTrip.res5A : RoundTrip.Statement .res5A :=
  fun _ _ => rfl

theorem RoundTrip.res6B : RoundTrip.Statement .res6B :=
  fun _ _ => rfl

theorem RoundTrip.res6C : RoundTrip.Statement .res6C :=
  fun _ _ => rfl

theorem RoundTrip.res6D : RoundTrip.Statement .res6D :=
  fun _ _ => rfl

theorem RoundTrip.res6E : RoundTrip.Statement .res6E :=
  fun _ _ => rfl

theorem RoundTrip.res6H : RoundTrip.Statement .res6H :=
  fun _ _ => rfl

theorem RoundTrip.res6L : RoundTrip.Statement .res6L :=
  fun _ _ => rfl

theorem RoundTrip.res6MemHl : RoundTrip.Statement .res6MemHl :=
  fun _ _ => rfl

theorem RoundTrip.res6A : RoundTrip.Statement .res6A :=
  fun _ _ => rfl

theorem RoundTrip.res7B : RoundTrip.Statement .res7B :=
  fun _ _ => rfl

theorem RoundTrip.res7C : RoundTrip.Statement .res7C :=
  fun _ _ => rfl

theorem RoundTrip.res7D : RoundTrip.Statement .res7D :=
  fun _ _ => rfl

theorem RoundTrip.res7E : RoundTrip.Statement .res7E :=
  fun _ _ => rfl

theorem RoundTrip.res7H : RoundTrip.Statement .res7H :=
  fun _ _ => rfl

theorem RoundTrip.res7L : RoundTrip.Statement .res7L :=
  fun _ _ => rfl

theorem RoundTrip.res7MemHl : RoundTrip.Statement .res7MemHl :=
  fun _ _ => rfl

theorem RoundTrip.res7A : RoundTrip.Statement .res7A :=
  fun _ _ => rfl

theorem RoundTrip.set0B : RoundTrip.Statement .set0B :=
  fun _ _ => rfl

theorem RoundTrip.set0C : RoundTrip.Statement .set0C :=
  fun _ _ => rfl

theorem RoundTrip.set0D : RoundTrip.Statement .set0D :=
  fun _ _ => rfl

theorem RoundTrip.set0E : RoundTrip.Statement .set0E :=
  fun _ _ => rfl

theorem RoundTrip.set0H : RoundTrip.Statement .set0H :=
  fun _ _ => rfl

theorem RoundTrip.set0L : RoundTrip.Statement .set0L :=
  fun _ _ => rfl

theorem RoundTrip.set0MemHl : RoundTrip.Statement .set0MemHl :=
  fun _ _ => rfl

theorem RoundTrip.set0A : RoundTrip.Statement .set0A :=
  fun _ _ => rfl

theorem RoundTrip.set1B : RoundTrip.Statement .set1B :=
  fun _ _ => rfl

theorem RoundTrip.set1C : RoundTrip.Statement .set1C :=
  fun _ _ => rfl

theorem RoundTrip.set1D : RoundTrip.Statement .set1D :=
  fun _ _ => rfl

theorem RoundTrip.set1E : RoundTrip.Statement .set1E :=
  fun _ _ => rfl

theorem RoundTrip.set1H : RoundTrip.Statement .set1H :=
  fun _ _ => rfl

theorem RoundTrip.set1L : RoundTrip.Statement .set1L :=
  fun _ _ => rfl

theorem RoundTrip.set1MemHl : RoundTrip.Statement .set1MemHl :=
  fun _ _ => rfl

theorem RoundTrip.set1A : RoundTrip.Statement .set1A :=
  fun _ _ => rfl

theorem RoundTrip.set2B : RoundTrip.Statement .set2B :=
  fun _ _ => rfl

theorem RoundTrip.set2C : RoundTrip.Statement .set2C :=
  fun _ _ => rfl

theorem RoundTrip.set2D : RoundTrip.Statement .set2D :=
  fun _ _ => rfl

theorem RoundTrip.set2E : RoundTrip.Statement .set2E :=
  fun _ _ => rfl

theorem RoundTrip.set2H : RoundTrip.Statement .set2H :=
  fun _ _ => rfl

theorem RoundTrip.set2L : RoundTrip.Statement .set2L :=
  fun _ _ => rfl

theorem RoundTrip.set2MemHl : RoundTrip.Statement .set2MemHl :=
  fun _ _ => rfl

theorem RoundTrip.set2A : RoundTrip.Statement .set2A :=
  fun _ _ => rfl

theorem RoundTrip.set3B : RoundTrip.Statement .set3B :=
  fun _ _ => rfl

theorem RoundTrip.set3C : RoundTrip.Statement .set3C :=
  fun _ _ => rfl

theorem RoundTrip.set3D : RoundTrip.Statement .set3D :=
  fun _ _ => rfl

theorem RoundTrip.set3E : RoundTrip.Statement .set3E :=
  fun _ _ => rfl

theorem RoundTrip.set3H : RoundTrip.Statement .set3H :=
  fun _ _ => rfl

theorem RoundTrip.set3L : RoundTrip.Statement .set3L :=
  fun _ _ => rfl

theorem RoundTrip.set3MemHl : RoundTrip.Statement .set3MemHl :=
  fun _ _ => rfl

theorem RoundTrip.set3A : RoundTrip.Statement .set3A :=
  fun _ _ => rfl

theorem RoundTrip.set4B : RoundTrip.Statement .set4B :=
  fun _ _ => rfl

theorem RoundTrip.set4C : RoundTrip.Statement .set4C :=
  fun _ _ => rfl

theorem RoundTrip.set4D : RoundTrip.Statement .set4D :=
  fun _ _ => rfl

theorem RoundTrip.set4E : RoundTrip.Statement .set4E :=
  fun _ _ => rfl

theorem RoundTrip.set4H : RoundTrip.Statement .set4H :=
  fun _ _ => rfl

theorem RoundTrip.set4L : RoundTrip.Statement .set4L :=
  fun _ _ => rfl

theorem RoundTrip.set4MemHl : RoundTrip.Statement .set4MemHl :=
  fun _ _ => rfl

theorem RoundTrip.set4A : RoundTrip.Statement .set4A :=
  fun _ _ => rfl

theorem RoundTrip.set5B : RoundTrip.Statement .set5B :=
  fun _ _ => rfl

theorem RoundTrip.set5C : RoundTrip.Statement .set5C :=
  fun _ _ => rfl

theorem RoundTrip.set5D : RoundTrip.Statement .set5D :=
  fun _ _ => rfl

theorem RoundTrip.set5E : RoundTrip.Statement .set5E :=
  fun _ _ => rfl

theorem RoundTrip.set5H : RoundTrip.Statement .set5H :=
  fun _ _ => rfl

theorem RoundTrip.set5L : RoundTrip.Statement .set5L :=
  fun _ _ => rfl

theorem RoundTrip.set5MemHl : RoundTrip.Statement .set5MemHl :=
  fun _ _ => rfl

theorem RoundTrip.set5A : RoundTrip.Statement .set5A :=
  fun _ _ => rfl

theorem RoundTrip.set6B : RoundTrip.Statement .set6B :=
  fun _ _ => rfl

theorem RoundTrip.set6C : RoundTrip.Statement .set6C :=
  fun _ _ => rfl

theorem RoundTrip.set6D : RoundTrip.Statement .set6D :=
  fun _ _ => rfl

theorem RoundTrip.set6E : RoundTrip.Statement .set6E :=
  fun _ _ => rfl

theorem RoundTrip.set6H : RoundTrip.Statement .set6H :=
  fun _ _ => rfl

theorem RoundTrip.set6L : RoundTrip.Statement .set6L :=
  fun _ _ => rfl

theorem RoundTrip.set6MemHl : RoundTrip.Statement .set6MemHl :=
  fun _ _ => rfl

theorem RoundTrip.set6A : RoundTrip.Statement .set6A :=
  fun _ _ => rfl

theorem RoundTrip.set7B : RoundTrip.Statement .set7B :=
  fun _ _ => rfl

theorem RoundTrip.set7C : RoundTrip.Statement .set7C :=
  fun _ _ => rfl

theorem RoundTrip.set7D : RoundTrip.Statement .set7D :=
  fun _ _ => rfl

theorem RoundTrip.set7E : RoundTrip.Statement .set7E :=
  fun _ _ => rfl

theorem RoundTrip.set7H : RoundTrip.Statement .set7H :=
  fun _ _ => rfl

theorem RoundTrip.set7L : RoundTrip.Statement .set7L :=
  fun _ _ => rfl

theorem RoundTrip.set7MemHl : RoundTrip.Statement .set7MemHl :=
  fun _ _ => rfl

theorem RoundTrip.set7A : RoundTrip.Statement .set7A :=
  fun _ _ => rfl

end Sys2Proof.Laws
end

