-- ==== Sys2Proof/Tests/Slice0.lean ====
section
/-! SUPPORT. The model's own tests. Decoding: every row of spec/opcode_table.json, its word written
from the row's match with operand bytes of our own. Steps: one step each, expected results from
spec/95_test_vectors.md (the vector's id is in the theorem's name). Witnesses: a state and operands
that meet the hypotheses of each obligation that has some. -/

namespace Sys2Proof.Tests

open Sys2Proof Sys2Proof.Machine

/-! ### Helpers -/

/-- The instruction that some bytes decode to, if they are one instruction exactly. -/
def whole (bytes : List Byte) : Option Instr :=
  match decode bytes with
  | .ok (i, []) => some i
  | _ => none

/-- Power-on with code at `org` and PC there (spec/95_test_vectors.md, Conventions). -/
def placed (org : Word) (code : List Byte) : State :=
  { (List.range code.length).foldl
      (fun s k => s.storeRaw (org + BitVec.ofNat 16 k) (code.getD k 0#8)) State.reset with
    pc := org }

/-- Bytes written with `write_byte`. -/
def poke (s : State) (cells : List (Word × Byte)) : State :=
  cells.foldl (fun s c => s.writeByte c.1 c.2) s

/-- One step of `s` ends in exactly the state `t`. -/
def stepsTo (s t : State) : Bool :=
  match step s with
  | .next u => decide (u = t)
  | _ => false

/-! ### Well-formedness -/

theorem test_lone_prefix_is_ill_formed : Instr.wellFormed .prefixCb = false := by decide

theorem test_whole_instructions_are_well_formed :
    Instr.wellFormed (.ldAN8 0x05#8) = true ∧ Instr.wellFormed .swapA = true ∧
      Instr.wellFormed .illegalD3 = true := by decide

/-! ### Decoding of every row of the opcode table -/

theorem test_decode_primary_row_0 : List.map whole
      [[0x00#8], [0x01#8, 0x34#8, 0x12#8], [0x02#8], [0x03#8], [0x04#8], [0x05#8],
       [0x06#8, 0x9A#8], [0x07#8], [0x08#8, 0x34#8, 0x12#8], [0x09#8], [0x0A#8], [0x0B#8],
       [0x0C#8], [0x0D#8], [0x0E#8, 0x9A#8], [0x0F#8]] =
    List.map some [.nop, .ldBcN16 0x1234#16, .ldMemBcA, .incBc, .incB, .decB, .ldBN8 0x9A#8,
      .rlca, .ldMemA16Sp 0x1234#16, .addHlBc, .ldAMemBc, .decBc, .incC, .decC, .ldCN8 0x9A#8,
      .rrca] := by
  rfl

theorem test_decode_primary_row_1 : List.map whole
      [[0x10#8], [0x11#8, 0x34#8, 0x12#8], [0x12#8], [0x13#8], [0x14#8], [0x15#8],
       [0x16#8, 0x9A#8], [0x17#8], [0x18#8, 0x9A#8], [0x19#8], [0x1A#8], [0x1B#8], [0x1C#8],
       [0x1D#8], [0x1E#8, 0x9A#8], [0x1F#8]] =
    List.map some [.stop, .ldDeN16 0x1234#16, .ldMemDeA, .incDe, .incD, .decD, .ldDN8 0x9A#8,
      .rla, .jrE8 0x9A#8, .addHlDe, .ldAMemDe, .decDe, .incE, .decE, .ldEN8 0x9A#8, .rra] := by
  rfl

theorem test_decode_primary_row_2 : List.map whole
      [[0x20#8, 0x9A#8], [0x21#8, 0x34#8, 0x12#8], [0x22#8], [0x23#8], [0x24#8],
       [0x25#8], [0x26#8, 0x9A#8], [0x27#8], [0x28#8, 0x9A#8], [0x29#8], [0x2A#8], [0x2B#8],
       [0x2C#8], [0x2D#8], [0x2E#8, 0x9A#8], [0x2F#8]] =
    List.map some [.jrNzE8 0x9A#8, .ldHlN16 0x1234#16, .ldMemHlIncA, .incHl, .incH, .decH,
      .ldHN8 0x9A#8, .daa, .jrZE8 0x9A#8, .addHlHl, .ldAMemHlInc, .decHl, .incL, .decL,
      .ldLN8 0x9A#8, .cpl] := by
  rfl

theorem test_decode_primary_row_3 : List.map whole
      [[0x30#8, 0x9A#8], [0x31#8, 0x34#8, 0x12#8], [0x32#8], [0x33#8], [0x34#8],
       [0x35#8], [0x36#8, 0x9A#8], [0x37#8], [0x38#8, 0x9A#8], [0x39#8], [0x3A#8], [0x3B#8],
       [0x3C#8], [0x3D#8], [0x3E#8, 0x9A#8], [0x3F#8]] =
    List.map some [.jrNcE8 0x9A#8, .ldSpN16 0x1234#16, .ldMemHlDecA, .incSp, .incMemHl,
      .decMemHl, .ldMemHlN8 0x9A#8, .scf, .jrCE8 0x9A#8, .addHlSp, .ldAMemHlDec, .decSp, .incA,
      .decA, .ldAN8 0x9A#8, .ccf] := by
  rfl

theorem test_decode_primary_row_4 : List.map whole
      [[0x40#8], [0x41#8], [0x42#8], [0x43#8], [0x44#8], [0x45#8], [0x46#8],
       [0x47#8], [0x48#8], [0x49#8], [0x4A#8], [0x4B#8], [0x4C#8], [0x4D#8], [0x4E#8], [0x4F#8]] =
    List.map some [.ldBB, .ldBC, .ldBD, .ldBE, .ldBH, .ldBL, .ldBMemHl, .ldBA, .ldCB, .ldCC,
      .ldCD, .ldCE, .ldCH, .ldCL, .ldCMemHl, .ldCA] := by
  rfl

theorem test_decode_primary_row_5 : List.map whole
      [[0x50#8], [0x51#8], [0x52#8], [0x53#8], [0x54#8], [0x55#8], [0x56#8],
       [0x57#8], [0x58#8], [0x59#8], [0x5A#8], [0x5B#8], [0x5C#8], [0x5D#8], [0x5E#8], [0x5F#8]] =
    List.map some [.ldDB, .ldDC, .ldDD, .ldDE, .ldDH, .ldDL, .ldDMemHl, .ldDA, .ldEB, .ldEC,
      .ldED, .ldEE, .ldEH, .ldEL, .ldEMemHl, .ldEA] := by
  rfl

theorem test_decode_primary_row_6 : List.map whole
      [[0x60#8], [0x61#8], [0x62#8], [0x63#8], [0x64#8], [0x65#8], [0x66#8],
       [0x67#8], [0x68#8], [0x69#8], [0x6A#8], [0x6B#8], [0x6C#8], [0x6D#8], [0x6E#8], [0x6F#8]] =
    List.map some [.ldHB, .ldHC, .ldHD, .ldHE, .ldHH, .ldHL, .ldHMemHl, .ldHA, .ldLB, .ldLC,
      .ldLD, .ldLE, .ldLH, .ldLL, .ldLMemHl, .ldLA] := by
  rfl

theorem test_decode_primary_row_7 : List.map whole
      [[0x70#8], [0x71#8], [0x72#8], [0x73#8], [0x74#8], [0x75#8], [0x76#8],
       [0x77#8], [0x78#8], [0x79#8], [0x7A#8], [0x7B#8], [0x7C#8], [0x7D#8], [0x7E#8], [0x7F#8]] =
    List.map some [.ldMemHlB, .ldMemHlC, .ldMemHlD, .ldMemHlE, .ldMemHlH, .ldMemHlL, .halt,
      .ldMemHlA, .ldAB, .ldAC, .ldAD, .ldAE, .ldAH, .ldAL, .ldAMemHl, .ldAA] := by
  rfl

theorem test_decode_primary_row_8 : List.map whole
      [[0x80#8], [0x81#8], [0x82#8], [0x83#8], [0x84#8], [0x85#8], [0x86#8],
       [0x87#8], [0x88#8], [0x89#8], [0x8A#8], [0x8B#8], [0x8C#8], [0x8D#8], [0x8E#8], [0x8F#8]] =
    List.map some [.addAB, .addAC, .addAD, .addAE, .addAH, .addAL, .addAMemHl, .addAA, .adcAB,
      .adcAC, .adcAD, .adcAE, .adcAH, .adcAL, .adcAMemHl, .adcAA] := by
  rfl

theorem test_decode_primary_row_9 : List.map whole
      [[0x90#8], [0x91#8], [0x92#8], [0x93#8], [0x94#8], [0x95#8], [0x96#8],
       [0x97#8], [0x98#8], [0x99#8], [0x9A#8], [0x9B#8], [0x9C#8], [0x9D#8], [0x9E#8], [0x9F#8]] =
    List.map some [.subB, .subC, .subD, .subE, .subH, .subL, .subMemHl, .subA, .sbcAB, .sbcAC,
      .sbcAD, .sbcAE, .sbcAH, .sbcAL, .sbcAMemHl, .sbcAA] := by
  rfl

theorem test_decode_primary_row_A : List.map whole
      [[0xA0#8], [0xA1#8], [0xA2#8], [0xA3#8], [0xA4#8], [0xA5#8], [0xA6#8],
       [0xA7#8], [0xA8#8], [0xA9#8], [0xAA#8], [0xAB#8], [0xAC#8], [0xAD#8], [0xAE#8], [0xAF#8]] =
    List.map some [.andB, .andC, .andD, .andE, .andH, .andL, .andMemHl, .andA, .xorB, .xorC,
      .xorD, .xorE, .xorH, .xorL, .xorMemHl, .xorA] := by
  rfl

theorem test_decode_primary_row_B : List.map whole
      [[0xB0#8], [0xB1#8], [0xB2#8], [0xB3#8], [0xB4#8], [0xB5#8], [0xB6#8],
       [0xB7#8], [0xB8#8], [0xB9#8], [0xBA#8], [0xBB#8], [0xBC#8], [0xBD#8], [0xBE#8], [0xBF#8]] =
    List.map some [.orB, .orC, .orD, .orE, .orH, .orL, .orMemHl, .orA, .cpB, .cpC, .cpD, .cpE,
      .cpH, .cpL, .cpMemHl, .cpA] := by
  rfl

theorem test_decode_primary_row_C : List.map whole
      [[0xC0#8], [0xC1#8], [0xC2#8, 0x34#8, 0x12#8], [0xC3#8, 0x34#8, 0x12#8],
       [0xC4#8, 0x34#8, 0x12#8], [0xC5#8], [0xC6#8, 0x9A#8], [0xC7#8], [0xC8#8], [0xC9#8],
       [0xCA#8, 0x34#8, 0x12#8], [0xCB#8], [0xCC#8, 0x34#8, 0x12#8], [0xCD#8, 0x34#8, 0x12#8],
       [0xCE#8, 0x9A#8], [0xCF#8]] =
    List.map some [.retNz, .popBc, .jpNzA16 0x1234#16, .jpA16 0x1234#16, .callNzA16 0x1234#16,
      .pushBc, .addAN8 0x9A#8, .rst00, .retZ, .ret, .jpZA16 0x1234#16, .prefixCb,
      .callZA16 0x1234#16, .callA16 0x1234#16, .adcAN8 0x9A#8, .rst08] := by
  rfl

theorem test_decode_primary_row_D : List.map whole
      [[0xD0#8], [0xD1#8], [0xD2#8, 0x34#8, 0x12#8], [0xD3#8],
       [0xD4#8, 0x34#8, 0x12#8], [0xD5#8], [0xD6#8, 0x9A#8], [0xD7#8], [0xD8#8], [0xD9#8],
       [0xDA#8, 0x34#8, 0x12#8], [0xDB#8], [0xDC#8, 0x34#8, 0x12#8], [0xDD#8], [0xDE#8, 0x9A#8],
       [0xDF#8]] =
    List.map some [.retNc, .popDe, .jpNcA16 0x1234#16, .illegalD3, .callNcA16 0x1234#16,
      .pushDe, .subN8 0x9A#8, .rst10, .retC, .reti, .jpCA16 0x1234#16, .illegalDB,
      .callCA16 0x1234#16, .illegalDD, .sbcAN8 0x9A#8, .rst18] := by
  rfl

theorem test_decode_primary_row_E : List.map whole
      [[0xE0#8, 0x9A#8], [0xE1#8], [0xE2#8], [0xE3#8], [0xE4#8], [0xE5#8],
       [0xE6#8, 0x9A#8], [0xE7#8], [0xE8#8, 0x9A#8], [0xE9#8], [0xEA#8, 0x34#8, 0x12#8],
       [0xEB#8], [0xEC#8], [0xED#8], [0xEE#8, 0x9A#8], [0xEF#8]] =
    List.map some [.ldhMemA8A 0x9A#8, .popHl, .ldMemCA, .illegalE3, .illegalE4, .pushHl,
      .andN8 0x9A#8, .rst20, .addSpE8 0x9A#8, .jpHl, .ldMemA16A 0x1234#16, .illegalEB,
      .illegalEC, .illegalED, .xorN8 0x9A#8, .rst28] := by
  rfl

theorem test_decode_primary_row_F : List.map whole
      [[0xF0#8, 0x9A#8], [0xF1#8], [0xF2#8], [0xF3#8], [0xF4#8], [0xF5#8],
       [0xF6#8, 0x9A#8], [0xF7#8], [0xF8#8, 0x9A#8], [0xF9#8], [0xFA#8, 0x34#8, 0x12#8],
       [0xFB#8], [0xFC#8], [0xFD#8], [0xFE#8, 0x9A#8], [0xFF#8]] =
    List.map some [.ldhAMemA8 0x9A#8, .popAf, .ldAMemC, .di, .illegalF4, .pushAf, .orN8 0x9A#8,
      .rst30, .ldHlSpE8 0x9A#8, .ldSpHl, .ldAMemA16 0x1234#16, .ei, .illegalFC, .illegalFD,
      .cpN8 0x9A#8, .rst38] := by
  rfl

theorem test_decode_cb_row_0 : List.map whole
      [[0xCB#8, 0x00#8], [0xCB#8, 0x01#8], [0xCB#8, 0x02#8], [0xCB#8, 0x03#8],
       [0xCB#8, 0x04#8], [0xCB#8, 0x05#8], [0xCB#8, 0x06#8], [0xCB#8, 0x07#8], [0xCB#8, 0x08#8],
       [0xCB#8, 0x09#8], [0xCB#8, 0x0A#8], [0xCB#8, 0x0B#8], [0xCB#8, 0x0C#8], [0xCB#8, 0x0D#8],
       [0xCB#8, 0x0E#8], [0xCB#8, 0x0F#8]] =
    List.map some [.rlcB, .rlcC, .rlcD, .rlcE, .rlcH, .rlcL, .rlcMemHl, .rlcA, .rrcB, .rrcC,
      .rrcD, .rrcE, .rrcH, .rrcL, .rrcMemHl, .rrcA] := by
  rfl

theorem test_decode_cb_row_1 : List.map whole
      [[0xCB#8, 0x10#8], [0xCB#8, 0x11#8], [0xCB#8, 0x12#8], [0xCB#8, 0x13#8],
       [0xCB#8, 0x14#8], [0xCB#8, 0x15#8], [0xCB#8, 0x16#8], [0xCB#8, 0x17#8], [0xCB#8, 0x18#8],
       [0xCB#8, 0x19#8], [0xCB#8, 0x1A#8], [0xCB#8, 0x1B#8], [0xCB#8, 0x1C#8], [0xCB#8, 0x1D#8],
       [0xCB#8, 0x1E#8], [0xCB#8, 0x1F#8]] =
    List.map some [.rlB, .rlC, .rlD, .rlE, .rlH, .rlL, .rlMemHl, .rlA, .rrB, .rrC, .rrD, .rrE,
      .rrH, .rrL, .rrMemHl, .rrA] := by
  rfl

theorem test_decode_cb_row_2 : List.map whole
      [[0xCB#8, 0x20#8], [0xCB#8, 0x21#8], [0xCB#8, 0x22#8], [0xCB#8, 0x23#8],
       [0xCB#8, 0x24#8], [0xCB#8, 0x25#8], [0xCB#8, 0x26#8], [0xCB#8, 0x27#8], [0xCB#8, 0x28#8],
       [0xCB#8, 0x29#8], [0xCB#8, 0x2A#8], [0xCB#8, 0x2B#8], [0xCB#8, 0x2C#8], [0xCB#8, 0x2D#8],
       [0xCB#8, 0x2E#8], [0xCB#8, 0x2F#8]] =
    List.map some [.slaB, .slaC, .slaD, .slaE, .slaH, .slaL, .slaMemHl, .slaA, .sraB, .sraC,
      .sraD, .sraE, .sraH, .sraL, .sraMemHl, .sraA] := by
  rfl

theorem test_decode_cb_row_3 : List.map whole
      [[0xCB#8, 0x30#8], [0xCB#8, 0x31#8], [0xCB#8, 0x32#8], [0xCB#8, 0x33#8],
       [0xCB#8, 0x34#8], [0xCB#8, 0x35#8], [0xCB#8, 0x36#8], [0xCB#8, 0x37#8], [0xCB#8, 0x38#8],
       [0xCB#8, 0x39#8], [0xCB#8, 0x3A#8], [0xCB#8, 0x3B#8], [0xCB#8, 0x3C#8], [0xCB#8, 0x3D#8],
       [0xCB#8, 0x3E#8], [0xCB#8, 0x3F#8]] =
    List.map some [.swapB, .swapC, .swapD, .swapE, .swapH, .swapL, .swapMemHl, .swapA, .srlB,
      .srlC, .srlD, .srlE, .srlH, .srlL, .srlMemHl, .srlA] := by
  rfl

theorem test_decode_cb_row_4 : List.map whole
      [[0xCB#8, 0x40#8], [0xCB#8, 0x41#8], [0xCB#8, 0x42#8], [0xCB#8, 0x43#8],
       [0xCB#8, 0x44#8], [0xCB#8, 0x45#8], [0xCB#8, 0x46#8], [0xCB#8, 0x47#8], [0xCB#8, 0x48#8],
       [0xCB#8, 0x49#8], [0xCB#8, 0x4A#8], [0xCB#8, 0x4B#8], [0xCB#8, 0x4C#8], [0xCB#8, 0x4D#8],
       [0xCB#8, 0x4E#8], [0xCB#8, 0x4F#8]] =
    List.map some [.bit0B, .bit0C, .bit0D, .bit0E, .bit0H, .bit0L, .bit0MemHl, .bit0A, .bit1B,
      .bit1C, .bit1D, .bit1E, .bit1H, .bit1L, .bit1MemHl, .bit1A] := by
  rfl

theorem test_decode_cb_row_5 : List.map whole
      [[0xCB#8, 0x50#8], [0xCB#8, 0x51#8], [0xCB#8, 0x52#8], [0xCB#8, 0x53#8],
       [0xCB#8, 0x54#8], [0xCB#8, 0x55#8], [0xCB#8, 0x56#8], [0xCB#8, 0x57#8], [0xCB#8, 0x58#8],
       [0xCB#8, 0x59#8], [0xCB#8, 0x5A#8], [0xCB#8, 0x5B#8], [0xCB#8, 0x5C#8], [0xCB#8, 0x5D#8],
       [0xCB#8, 0x5E#8], [0xCB#8, 0x5F#8]] =
    List.map some [.bit2B, .bit2C, .bit2D, .bit2E, .bit2H, .bit2L, .bit2MemHl, .bit2A, .bit3B,
      .bit3C, .bit3D, .bit3E, .bit3H, .bit3L, .bit3MemHl, .bit3A] := by
  rfl

theorem test_decode_cb_row_6 : List.map whole
      [[0xCB#8, 0x60#8], [0xCB#8, 0x61#8], [0xCB#8, 0x62#8], [0xCB#8, 0x63#8],
       [0xCB#8, 0x64#8], [0xCB#8, 0x65#8], [0xCB#8, 0x66#8], [0xCB#8, 0x67#8], [0xCB#8, 0x68#8],
       [0xCB#8, 0x69#8], [0xCB#8, 0x6A#8], [0xCB#8, 0x6B#8], [0xCB#8, 0x6C#8], [0xCB#8, 0x6D#8],
       [0xCB#8, 0x6E#8], [0xCB#8, 0x6F#8]] =
    List.map some [.bit4B, .bit4C, .bit4D, .bit4E, .bit4H, .bit4L, .bit4MemHl, .bit4A, .bit5B,
      .bit5C, .bit5D, .bit5E, .bit5H, .bit5L, .bit5MemHl, .bit5A] := by
  rfl

theorem test_decode_cb_row_7 : List.map whole
      [[0xCB#8, 0x70#8], [0xCB#8, 0x71#8], [0xCB#8, 0x72#8], [0xCB#8, 0x73#8],
       [0xCB#8, 0x74#8], [0xCB#8, 0x75#8], [0xCB#8, 0x76#8], [0xCB#8, 0x77#8], [0xCB#8, 0x78#8],
       [0xCB#8, 0x79#8], [0xCB#8, 0x7A#8], [0xCB#8, 0x7B#8], [0xCB#8, 0x7C#8], [0xCB#8, 0x7D#8],
       [0xCB#8, 0x7E#8], [0xCB#8, 0x7F#8]] =
    List.map some [.bit6B, .bit6C, .bit6D, .bit6E, .bit6H, .bit6L, .bit6MemHl, .bit6A, .bit7B,
      .bit7C, .bit7D, .bit7E, .bit7H, .bit7L, .bit7MemHl, .bit7A] := by
  rfl

theorem test_decode_cb_row_8 : List.map whole
      [[0xCB#8, 0x80#8], [0xCB#8, 0x81#8], [0xCB#8, 0x82#8], [0xCB#8, 0x83#8],
       [0xCB#8, 0x84#8], [0xCB#8, 0x85#8], [0xCB#8, 0x86#8], [0xCB#8, 0x87#8], [0xCB#8, 0x88#8],
       [0xCB#8, 0x89#8], [0xCB#8, 0x8A#8], [0xCB#8, 0x8B#8], [0xCB#8, 0x8C#8], [0xCB#8, 0x8D#8],
       [0xCB#8, 0x8E#8], [0xCB#8, 0x8F#8]] =
    List.map some [.res0B, .res0C, .res0D, .res0E, .res0H, .res0L, .res0MemHl, .res0A, .res1B,
      .res1C, .res1D, .res1E, .res1H, .res1L, .res1MemHl, .res1A] := by
  rfl

theorem test_decode_cb_row_9 : List.map whole
      [[0xCB#8, 0x90#8], [0xCB#8, 0x91#8], [0xCB#8, 0x92#8], [0xCB#8, 0x93#8],
       [0xCB#8, 0x94#8], [0xCB#8, 0x95#8], [0xCB#8, 0x96#8], [0xCB#8, 0x97#8], [0xCB#8, 0x98#8],
       [0xCB#8, 0x99#8], [0xCB#8, 0x9A#8], [0xCB#8, 0x9B#8], [0xCB#8, 0x9C#8], [0xCB#8, 0x9D#8],
       [0xCB#8, 0x9E#8], [0xCB#8, 0x9F#8]] =
    List.map some [.res2B, .res2C, .res2D, .res2E, .res2H, .res2L, .res2MemHl, .res2A, .res3B,
      .res3C, .res3D, .res3E, .res3H, .res3L, .res3MemHl, .res3A] := by
  rfl

theorem test_decode_cb_row_A : List.map whole
      [[0xCB#8, 0xA0#8], [0xCB#8, 0xA1#8], [0xCB#8, 0xA2#8], [0xCB#8, 0xA3#8],
       [0xCB#8, 0xA4#8], [0xCB#8, 0xA5#8], [0xCB#8, 0xA6#8], [0xCB#8, 0xA7#8], [0xCB#8, 0xA8#8],
       [0xCB#8, 0xA9#8], [0xCB#8, 0xAA#8], [0xCB#8, 0xAB#8], [0xCB#8, 0xAC#8], [0xCB#8, 0xAD#8],
       [0xCB#8, 0xAE#8], [0xCB#8, 0xAF#8]] =
    List.map some [.res4B, .res4C, .res4D, .res4E, .res4H, .res4L, .res4MemHl, .res4A, .res5B,
      .res5C, .res5D, .res5E, .res5H, .res5L, .res5MemHl, .res5A] := by
  rfl

theorem test_decode_cb_row_B : List.map whole
      [[0xCB#8, 0xB0#8], [0xCB#8, 0xB1#8], [0xCB#8, 0xB2#8], [0xCB#8, 0xB3#8],
       [0xCB#8, 0xB4#8], [0xCB#8, 0xB5#8], [0xCB#8, 0xB6#8], [0xCB#8, 0xB7#8], [0xCB#8, 0xB8#8],
       [0xCB#8, 0xB9#8], [0xCB#8, 0xBA#8], [0xCB#8, 0xBB#8], [0xCB#8, 0xBC#8], [0xCB#8, 0xBD#8],
       [0xCB#8, 0xBE#8], [0xCB#8, 0xBF#8]] =
    List.map some [.res6B, .res6C, .res6D, .res6E, .res6H, .res6L, .res6MemHl, .res6A, .res7B,
      .res7C, .res7D, .res7E, .res7H, .res7L, .res7MemHl, .res7A] := by
  rfl

theorem test_decode_cb_row_C : List.map whole
      [[0xCB#8, 0xC0#8], [0xCB#8, 0xC1#8], [0xCB#8, 0xC2#8], [0xCB#8, 0xC3#8],
       [0xCB#8, 0xC4#8], [0xCB#8, 0xC5#8], [0xCB#8, 0xC6#8], [0xCB#8, 0xC7#8], [0xCB#8, 0xC8#8],
       [0xCB#8, 0xC9#8], [0xCB#8, 0xCA#8], [0xCB#8, 0xCB#8], [0xCB#8, 0xCC#8], [0xCB#8, 0xCD#8],
       [0xCB#8, 0xCE#8], [0xCB#8, 0xCF#8]] =
    List.map some [.set0B, .set0C, .set0D, .set0E, .set0H, .set0L, .set0MemHl, .set0A, .set1B,
      .set1C, .set1D, .set1E, .set1H, .set1L, .set1MemHl, .set1A] := by
  rfl

theorem test_decode_cb_row_D : List.map whole
      [[0xCB#8, 0xD0#8], [0xCB#8, 0xD1#8], [0xCB#8, 0xD2#8], [0xCB#8, 0xD3#8],
       [0xCB#8, 0xD4#8], [0xCB#8, 0xD5#8], [0xCB#8, 0xD6#8], [0xCB#8, 0xD7#8], [0xCB#8, 0xD8#8],
       [0xCB#8, 0xD9#8], [0xCB#8, 0xDA#8], [0xCB#8, 0xDB#8], [0xCB#8, 0xDC#8], [0xCB#8, 0xDD#8],
       [0xCB#8, 0xDE#8], [0xCB#8, 0xDF#8]] =
    List.map some [.set2B, .set2C, .set2D, .set2E, .set2H, .set2L, .set2MemHl, .set2A, .set3B,
      .set3C, .set3D, .set3E, .set3H, .set3L, .set3MemHl, .set3A] := by
  rfl

theorem test_decode_cb_row_E : List.map whole
      [[0xCB#8, 0xE0#8], [0xCB#8, 0xE1#8], [0xCB#8, 0xE2#8], [0xCB#8, 0xE3#8],
       [0xCB#8, 0xE4#8], [0xCB#8, 0xE5#8], [0xCB#8, 0xE6#8], [0xCB#8, 0xE7#8], [0xCB#8, 0xE8#8],
       [0xCB#8, 0xE9#8], [0xCB#8, 0xEA#8], [0xCB#8, 0xEB#8], [0xCB#8, 0xEC#8], [0xCB#8, 0xED#8],
       [0xCB#8, 0xEE#8], [0xCB#8, 0xEF#8]] =
    List.map some [.set4B, .set4C, .set4D, .set4E, .set4H, .set4L, .set4MemHl, .set4A, .set5B,
      .set5C, .set5D, .set5E, .set5H, .set5L, .set5MemHl, .set5A] := by
  rfl

theorem test_decode_cb_row_F : List.map whole
      [[0xCB#8, 0xF0#8], [0xCB#8, 0xF1#8], [0xCB#8, 0xF2#8], [0xCB#8, 0xF3#8],
       [0xCB#8, 0xF4#8], [0xCB#8, 0xF5#8], [0xCB#8, 0xF6#8], [0xCB#8, 0xF7#8], [0xCB#8, 0xF8#8],
       [0xCB#8, 0xF9#8], [0xCB#8, 0xFA#8], [0xCB#8, 0xFB#8], [0xCB#8, 0xFC#8], [0xCB#8, 0xFD#8],
       [0xCB#8, 0xFE#8], [0xCB#8, 0xFF#8]] =
    List.map some [.set6B, .set6C, .set6D, .set6E, .set6H, .set6L, .set6MemHl, .set6A, .set7B,
      .set7C, .set7D, .set7E, .set7H, .set7L, .set7MemHl, .set7A] := by
  rfl

/-! ### The opcode table's numbering, and running a placed word -/

theorem test_table_words :
    decodeTableWord 8 0x00 = some .nop ∧ decodeTableWord 8 0xCB = some .prefixCb ∧
      decodeTableWord 16 0xCB00 = some .rlcB ∧ decodeTableWord 16 0xCBFF = some .set7A ∧
      decodeTableWord 8 0x06 = some (.ldBN8 0x00#8) ∧
      decodeTableWord 16 0x053E = some (.ldAN8 0x05#8) ∧
      decodeTableWord 24 0x0150C3 = some (.jpA16 0x0150#16) ∧
      decodeTableWord 8 0xD3 = some .illegalD3 :=
  ⟨rfl, rfl, rfl, rfl, rfl, rfl, rfl, rfl⟩

theorem test_empty_and_truncated_are_rejected :
    decode [] = .error .empty ∧ decode [0xC3#8, 0x50#8] = .error (.truncated 0xC3#8) :=
  ⟨rfl, rfl⟩

theorem test_placed_word_runs :
    stepsTo (State.reset.withFetchWord 24 0x0150C3)
      { State.reset.withFetchWord 24 0x0150C3 with pc := 0x0150#16 } = true := by decide

theorem test_placed_prefix_row_runs :
    stepsTo (State.reset.withFetchWord 8 0xCB)
      { State.reset.withFetchWord 8 0xCB with pc := 0x0102#16, f := 0x80#8 } = true := by decide

/-! ### One step each (spec/95_test_vectors.md) -/

theorem test_vector_M3 :
    let s := { placed 0x0100#16 [0xEA#8, 0x00#8, 0x20#8] with a := 0x55#8 }
    stepsTo s { s with pc := 0x0103#16 } = true := by decide

theorem test_vector_M5 :
    let s := { placed 0x0100#16 [0xE0#8, 0xFF#8] with a := 0x1F#8 }
    stepsTo s { poke s [(0xFFFF#16, 0x1F#8)] with pc := 0x0102#16 } = true := by decide

theorem test_vector_M6 :
    let s := { placed 0x0100#16 [0x08#8, 0xFF#8, 0xFF#8] with sp := 0xABCD#16 }
    stepsTo s { poke s [(0xFFFF#16, 0xCD#8)] with pc := 0x0103#16 } = true := by decide

theorem test_vector_M8 :
    let s := { placed 0x0100#16 [0xC5#8] with sp := 0x0001#16, b := 0x12#8, c := 0x34#8 }
    stepsTo s { poke s [(0xFFFF#16, 0x34#8)] with
        sp := 0xFFFF#16, pc := 0x0101#16 } = true := by decide

theorem test_vector_M9 :
    let s := poke { placed 0x0100#16 [0xC1#8] with sp := 0xFFFF#16 } [(0xFFFF#16, 0x11#8)]
    stepsTo s { s with c := 0x11#8, sp := 0x0001#16, pc := 0x0101#16 } = true := by decide

theorem test_vector_L1 :
    let s := { placed 0x0100#16 [0x41#8] with c := 0x99#8 }
    stepsTo s { s with b := 0x99#8, pc := 0x0101#16 } = true := by decide

theorem test_vector_L3 :
    let s := poke { placed 0x0100#16 [0x7E#8] with h := 0xC0#8, l := 0x00#8 } [(0xC000#16, 0x5A#8)]
    stepsTo s { s with a := 0x5A#8, pc := 0x0101#16 } = true := by decide

theorem test_vector_L4 :
    let s := poke { placed 0x0100#16 [0x66#8] with h := 0xC0#8, l := 0x00#8 } [(0xC000#16, 0x5A#8)]
    stepsTo s { s with h := 0x5A#8, pc := 0x0101#16 } = true := by decide

theorem test_vector_L5 :
    let s := { placed 0x0100#16 [0x77#8] with h := 0xC0#8, l := 0x01#8, a := 0x5A#8 }
    stepsTo s { poke s [(0xC001#16, 0x5A#8)] with pc := 0x0101#16 } = true := by decide

theorem test_vector_L7 :
    let s := placed 0x0100#16 [0x3E#8, 0x05#8]
    stepsTo s { s with a := 0x05#8, pc := 0x0102#16 } = true := by decide

theorem test_vector_L8 :
    let s := { placed 0x0100#16 [0x36#8, 0x42#8] with h := 0xC0#8, l := 0x00#8 }
    stepsTo s { poke s [(0xC000#16, 0x42#8)] with pc := 0x0102#16 } = true := by decide

theorem test_vector_L10 :
    let s := { placed 0x0100#16 [0x02#8] with b := 0xC1#8, c := 0x00#8, a := 0x11#8 }
    stepsTo s { poke s [(0xC100#16, 0x11#8)] with pc := 0x0101#16 } = true := by decide

theorem test_vector_L12 :
    let s := poke { placed 0x0100#16 [0x1A#8] with d := 0xE0#8, e := 0x00#8 } [(0xC000#16, 0x77#8)]
    stepsTo s { s with a := 0x77#8, pc := 0x0101#16 } = true := by decide

theorem test_vector_L13 :
    let s := { placed 0x0100#16 [0x22#8] with h := 0xFF#8, l := 0xFF#8, a := 0x5A#8 }
    stepsTo s { poke s [(0xFFFF#16, 0x5A#8)] with
        h := 0x00#8, l := 0x00#8, pc := 0x0101#16 } = true := by decide

theorem test_vector_L15 :
    let s := poke { placed 0x0100#16 [0x2A#8] with h := 0xC0#8, l := 0x00#8 } [(0xC000#16, 0x5A#8)]
    stepsTo s { s with a := 0x5A#8, l := 0x01#8, pc := 0x0101#16 } = true := by decide

theorem test_vector_L16 :
    let s := poke { placed 0x0100#16 [0x3A#8] with h := 0xC0#8, l := 0x01#8 } [(0xC001#16, 0x33#8)]
    stepsTo s { s with a := 0x33#8, l := 0x00#8, pc := 0x0101#16 } = true := by decide

theorem test_vector_L17 :
    let s := { placed 0x0100#16 [0xEA#8, 0x10#8, 0xC0#8] with a := 0x5A#8 }
    stepsTo s { poke s [(0xC010#16, 0x5A#8)] with pc := 0x0103#16 } = true := by decide

theorem test_vector_L18 :
    let s := placed 0x0100#16 [0xFA#8, 0xA5#8, 0xFE#8]
    stepsTo s { s with a := 0xFF#8, pc := 0x0103#16 } = true := by decide

theorem test_vector_L19 :
    let s := { placed 0x0100#16 [0xE0#8, 0x0F#8] with a := 0x04#8 }
    stepsTo s { poke s [(0xFF0F#16, 0x04#8)] with pc := 0x0102#16 } = true := by decide

theorem test_vector_L20 :
    let s := poke (placed 0x0100#16 [0xF0#8, 0x80#8]) [(0xFF80#16, 0xAB#8)]
    stepsTo s { s with a := 0xAB#8, pc := 0x0102#16 } = true := by decide

theorem test_vector_L21 :
    let s := { placed 0x0100#16 [0xE2#8] with c := 0xFF#8, a := 0x01#8 }
    stepsTo s { poke s [(0xFFFF#16, 0x01#8)] with pc := 0x0101#16 } = true := by decide

theorem test_vector_L22 :
    let s := poke { placed 0x0100#16 [0xF2#8] with c := 0x0F#8 } [(0xFF0F#16, 0x04#8)]
    stepsTo s { s with a := 0x04#8, pc := 0x0101#16 } = true := by decide

theorem test_vector_A2 :
    let s := { placed 0x0100#16 [0x87#8] with a := 0x80#8, f := 0x00#8 }
    stepsTo s { s with a := 0x00#8, f := 0x90#8, pc := 0x0101#16 } = true := by decide

theorem test_vector_A3 :
    let s := { placed 0x0100#16 [0xC6#8, 0x01#8] with a := 0x0F#8, f := 0x00#8 }
    stepsTo s { s with a := 0x10#8, f := 0x20#8, pc := 0x0102#16 } = true := by decide

theorem test_vector_A5 :
    let s := { placed 0x0100#16 [0x89#8] with a := 0xE1#8, c := 0x0F#8, f := 0x10#8 }
    stepsTo s { s with a := 0xF1#8, f := 0x20#8, pc := 0x0101#16 } = true := by decide

theorem test_vector_A7 :
    let s := { placed 0x0100#16 [0xCE#8, 0x0F#8] with a := 0x00#8, f := 0x10#8 }
    stepsTo s { s with a := 0x10#8, f := 0x20#8, pc := 0x0102#16 } = true := by decide

theorem test_vector_A8 :
    let s := poke { placed 0x0100#16 [0x8E#8] with
        a := 0xE1#8, h := 0xC0#8, l := 0x00#8, f := 0x10#8 } [(0xC000#16, 0x1E#8)]
    stepsTo s { s with a := 0x00#8, f := 0xB0#8, pc := 0x0101#16 } = true := by decide

theorem test_vector_A10 :
    let s := { placed 0x0100#16 [0xD6#8, 0x01#8] with a := 0x00#8, f := 0x00#8 }
    stepsTo s { s with a := 0xFF#8, f := 0x70#8, pc := 0x0102#16 } = true := by decide

theorem test_vector_A12 :
    let s := poke { placed 0x0100#16 [0x96#8] with
        a := 0x3E#8, h := 0xC0#8, l := 0x00#8, f := 0x00#8 } [(0xC000#16, 0x40#8)]
    stepsTo s { s with a := 0xFE#8, f := 0x50#8, pc := 0x0101#16 } = true := by decide

theorem test_vector_A14 :
    let s := { placed 0x0100#16 [0x9F#8] with a := 0x55#8, f := 0x10#8 }
    stepsTo s { s with a := 0xFF#8, f := 0x70#8, pc := 0x0101#16 } = true := by decide

theorem test_vector_A16 :
    let s := { placed 0x0100#16 [0xDE#8, 0x0F#8] with a := 0x10#8, f := 0x10#8 }
    stepsTo s { s with a := 0x00#8, f := 0xE0#8, pc := 0x0102#16 } = true := by decide

theorem test_vector_A17 :
    let s := { placed 0x0100#16 [0xA5#8] with a := 0x5A#8, l := 0x3F#8, f := 0x10#8 }
    stepsTo s { s with a := 0x1A#8, f := 0x20#8, pc := 0x0101#16 } = true := by decide

theorem test_vector_A18 :
    let s := { placed 0x0100#16 [0xE6#8, 0x00#8] with a := 0xFF#8, f := 0x00#8 }
    stepsTo s { s with a := 0x00#8, f := 0xA0#8, pc := 0x0102#16 } = true := by decide

theorem test_vector_A19 :
    let s := { placed 0x0100#16 [0xAF#8] with a := 0xFF#8, f := 0x70#8 }
    stepsTo s { s with a := 0x00#8, f := 0x80#8, pc := 0x0101#16 } = true := by decide

theorem test_vector_A21 :
    let s := { placed 0x0100#16 [0xB7#8] with a := 0x5A#8, f := 0xF0#8 }
    stepsTo s { s with f := 0x00#8, pc := 0x0101#16 } = true := by decide

theorem test_vector_A22 :
    let s := { placed 0x0100#16 [0xF6#8, 0x00#8] with a := 0x00#8, f := 0x00#8 }
    stepsTo s { s with f := 0x80#8, pc := 0x0102#16 } = true := by decide

theorem test_vector_A23 :
    let s := { placed 0x0100#16 [0xB8#8] with a := 0x3C#8, b := 0x2F#8, f := 0x00#8 }
    stepsTo s { s with f := 0x60#8, pc := 0x0101#16 } = true := by decide

theorem test_vector_A25 :
    let s := poke { placed 0x0100#16 [0xBE#8] with
        a := 0x3C#8, h := 0xC0#8, l := 0x00#8, f := 0x00#8 } [(0xC000#16, 0x40#8)]
    stepsTo s { s with f := 0x50#8, pc := 0x0101#16 } = true := by decide

theorem test_vector_A26 :
    let s := { placed 0x0100#16 [0xFE#8, 0x3C#8] with a := 0x3C#8, f := 0x00#8 }
    stepsTo s { s with f := 0xC0#8, pc := 0x0102#16 } = true := by decide

theorem test_vector_A27 :
    let s := { placed 0x0100#16 [0x3C#8] with a := 0xFF#8, f := 0x10#8 }
    stepsTo s { s with a := 0x00#8, f := 0xB0#8, pc := 0x0101#16 } = true := by decide

theorem test_vector_A29 :
    let s := { placed 0x0100#16 [0x2C#8] with l := 0x7F#8, f := 0x50#8 }
    stepsTo s { s with l := 0x80#8, f := 0x30#8, pc := 0x0101#16 } = true := by decide

theorem test_vector_A31 :
    let s := { placed 0x0100#16 [0x34#8] with h := 0xFE#8, l := 0xA0#8, f := 0x00#8 }
    stepsTo s { s with f := 0xA0#8, pc := 0x0101#16 } = true := by decide

theorem test_vector_A32 :
    let s := { placed 0x0100#16 [0x05#8] with b := 0x01#8, f := 0x00#8 }
    stepsTo s { s with b := 0x00#8, f := 0xC0#8, pc := 0x0101#16 } = true := by decide

theorem test_vector_A34 :
    let s := { placed 0x0100#16 [0x3D#8] with a := 0x10#8, f := 0x00#8 }
    stepsTo s { s with a := 0x0F#8, f := 0x60#8, pc := 0x0101#16 } = true := by decide

theorem test_vector_A35 :
    let s := poke { placed 0x0100#16 [0x35#8] with
        h := 0xC0#8, l := 0x00#8, f := 0x00#8 } [(0xC000#16, 0x00#8)]
    stepsTo s { poke s [(0xC000#16, 0xFF#8)] with
        f := 0x60#8, pc := 0x0101#16 } = true := by decide

theorem test_vector_W1 :
    let s := { placed 0x0100#16 [0x03#8] with b := 0x00#8, c := 0xFF#8, f := 0x00#8 }
    stepsTo s { s with b := 0x01#8, c := 0x00#8, pc := 0x0101#16 } = true := by decide

theorem test_vector_W3 :
    let s := { placed 0x0100#16 [0x1B#8] with d := 0x00#8, e := 0x00#8, f := 0xF0#8 }
    stepsTo s { s with d := 0xFF#8, e := 0xFF#8, pc := 0x0101#16 } = true := by decide

theorem test_vector_W4 :
    let s := { placed 0x0100#16 [0x09#8] with
        h := 0x8A#8, l := 0x23#8, b := 0x06#8, c := 0x05#8, f := 0x00#8 }
    stepsTo s { s with h := 0x90#8, l := 0x28#8, f := 0x20#8, pc := 0x0101#16 } = true := by decide

theorem test_vector_W5 :
    let s := { placed 0x0100#16 [0x29#8] with h := 0x80#8, l := 0x00#8, f := 0x80#8 }
    stepsTo s { s with h := 0x00#8, f := 0x90#8, pc := 0x0101#16 } = true := by decide

theorem test_vector_S1 :
    let s := { placed 0x0100#16 [0x07#8] with a := 0x85#8, f := 0x80#8 }
    stepsTo s { s with a := 0x0B#8, f := 0x10#8, pc := 0x0101#16 } = true := by decide

theorem test_vector_S3 :
    let s := { placed 0x0100#16 [0x0F#8] with a := 0x3B#8, f := 0x00#8 }
    stepsTo s { s with a := 0x9D#8, f := 0x10#8, pc := 0x0101#16 } = true := by decide

theorem test_vector_S4 :
    let s := { placed 0x0100#16 [0x17#8] with a := 0x95#8, f := 0x10#8 }
    stepsTo s { s with a := 0x2B#8, pc := 0x0101#16 } = true := by decide

theorem test_vector_S7 :
    let s := { placed 0x0100#16 [0xCB#8, 0x00#8] with b := 0x85#8, f := 0x00#8 }
    stepsTo s { s with b := 0x0B#8, f := 0x10#8, pc := 0x0102#16 } = true := by decide

theorem test_vector_S9 :
    let s := poke { placed 0x0100#16 [0xCB#8, 0x06#8] with
        h := 0xC0#8, l := 0x00#8, f := 0x00#8 } [(0xC000#16, 0x80#8)]
    stepsTo s { poke s [(0xC000#16, 0x01#8)] with
        f := 0x10#8, pc := 0x0102#16 } = true := by decide

theorem test_vector_S10 :
    let s := { placed 0x0100#16 [0xCB#8, 0x09#8] with c := 0x01#8, f := 0x00#8 }
    stepsTo s { s with c := 0x80#8, f := 0x10#8, pc := 0x0102#16 } = true := by decide

theorem test_vector_S11 :
    let s := poke { placed 0x0100#16 [0xCB#8, 0x0E#8] with
        h := 0xC0#8, l := 0x00#8, f := 0x00#8 } [(0xC000#16, 0x01#8)]
    stepsTo s { poke s [(0xC000#16, 0x80#8)] with
        f := 0x10#8, pc := 0x0102#16 } = true := by decide

theorem test_vector_S12 :
    let s := { placed 0x0100#16 [0xCB#8, 0x12#8] with d := 0x80#8, f := 0x00#8 }
    stepsTo s { s with d := 0x00#8, f := 0x90#8, pc := 0x0102#16 } = true := by decide

theorem test_vector_S14 :
    let s := poke { placed 0x0100#16 [0xCB#8, 0x16#8] with
        h := 0xC0#8, l := 0x00#8, f := 0x10#8 } [(0xC000#16, 0x11#8)]
    stepsTo s { poke s [(0xC000#16, 0x23#8)] with
        f := 0x00#8, pc := 0x0102#16 } = true := by decide

theorem test_vector_S15 :
    let s := { placed 0x0100#16 [0xCB#8, 0x1B#8] with e := 0x01#8, f := 0x00#8 }
    stepsTo s { s with e := 0x00#8, f := 0x90#8, pc := 0x0102#16 } = true := by decide

theorem test_vector_S16 :
    let s := poke { placed 0x0100#16 [0xCB#8, 0x1E#8] with
        h := 0xC0#8, l := 0x00#8, f := 0x10#8 } [(0xC000#16, 0x8A#8)]
    stepsTo s { poke s [(0xC000#16, 0xC5#8)] with
        f := 0x00#8, pc := 0x0102#16 } = true := by decide

theorem test_vector_S17 :
    let s := { placed 0x0100#16 [0xCB#8, 0x24#8] with h := 0x80#8, f := 0x00#8 }
    stepsTo s { s with h := 0x00#8, f := 0x90#8, pc := 0x0102#16 } = true := by decide

theorem test_vector_S18 :
    let s := poke { placed 0x0100#16 [0xCB#8, 0x26#8] with
        h := 0xC0#8, l := 0x00#8, f := 0x00#8 } [(0xC000#16, 0xFF#8)]
    stepsTo s { poke s [(0xC000#16, 0xFE#8)] with
        f := 0x10#8, pc := 0x0102#16 } = true := by decide

theorem test_vector_S19 :
    let s := { placed 0x0100#16 [0xCB#8, 0x2D#8] with l := 0x8A#8, f := 0x00#8 }
    stepsTo s { s with l := 0xC5#8, pc := 0x0102#16 } = true := by decide

theorem test_vector_S21 :
    let s := poke { placed 0x0100#16 [0xCB#8, 0x2E#8] with
        h := 0xC0#8, l := 0x00#8, f := 0x00#8 } [(0xC000#16, 0x01#8)]
    stepsTo s { poke s [(0xC000#16, 0x00#8)] with
        f := 0x90#8, pc := 0x0102#16 } = true := by decide

theorem test_vector_S22 :
    let s := { placed 0x0100#16 [0xCB#8, 0x37#8] with a := 0xF0#8, f := 0x10#8 }
    stepsTo s { s with a := 0x0F#8, f := 0x00#8, pc := 0x0102#16 } = true := by decide

theorem test_vector_S24 :
    let s := poke { placed 0x0100#16 [0xCB#8, 0x36#8] with
        h := 0xC0#8, l := 0x00#8, f := 0x00#8 } [(0xC000#16, 0xA5#8)]
    stepsTo s { poke s [(0xC000#16, 0x5A#8)] with pc := 0x0102#16 } = true := by decide

theorem test_vector_S25 :
    let s := { placed 0x0100#16 [0xCB#8, 0x3F#8] with a := 0x01#8, f := 0x00#8 }
    stepsTo s { s with a := 0x00#8, f := 0x90#8, pc := 0x0102#16 } = true := by decide

theorem test_vector_S26 :
    let s := poke { placed 0x0100#16 [0xCB#8, 0x3E#8] with
        h := 0xC0#8, l := 0x00#8, f := 0x00#8 } [(0xC000#16, 0xFF#8)]
    stepsTo s { poke s [(0xC000#16, 0x7F#8)] with
        f := 0x10#8, pc := 0x0102#16 } = true := by decide

theorem test_vector_B2 :
    let s := { placed 0x0100#16 [0xCB#8, 0x7F#8] with a := 0x7F#8, f := 0x40#8 }
    stepsTo s { s with f := 0xA0#8, pc := 0x0102#16 } = true := by decide

theorem test_vector_B3 :
    let s := { placed 0x0100#16 [0xCB#8, 0x40#8] with b := 0x01#8, f := 0x00#8 }
    stepsTo s { s with f := 0x20#8, pc := 0x0102#16 } = true := by decide

theorem test_vector_B4 :
    let s := poke { placed 0x0100#16 [0xCB#8, 0x46#8] with
        h := 0xC0#8, l := 0x00#8, f := 0x00#8 } [(0xC000#16, 0xFE#8)]
    stepsTo s { s with f := 0xA0#8, pc := 0x0102#16 } = true := by decide

theorem test_vector_B6 :
    let s := { placed 0x0100#16 [0xCB#8, 0xBF#8] with a := 0xFF#8, f := 0xF0#8 }
    stepsTo s { s with a := 0x7F#8, pc := 0x0102#16 } = true := by decide

theorem test_vector_B7 :
    let s := poke { placed 0x0100#16 [0xCB#8, 0x86#8] with
        h := 0xFF#8, l := 0x0F#8, f := 0x00#8 } [(0xFF0F#16, 0x05#8)]
    stepsTo s { poke s [(0xFF0F#16, 0x04#8)] with pc := 0x0102#16 } = true := by decide

theorem test_vector_B8 :
    let s := { placed 0x0100#16 [0xCB#8, 0xCB#8] with e := 0x00#8, f := 0x00#8 }
    stepsTo s { s with e := 0x02#8, pc := 0x0102#16 } = true := by decide

theorem test_vector_B9 :
    let s := poke { placed 0x0100#16 [0xCB#8, 0xFE#8] with
        h := 0xC0#8, l := 0x00#8, f := 0x00#8 } [(0xC000#16, 0x00#8)]
    stepsTo s { poke s [(0xC000#16, 0x80#8)] with pc := 0x0102#16 } = true := by decide

theorem test_vector_D5 :
    let s := { placed 0x0100#16 [0x27#8] with a := 0x9A#8, f := 0x00#8 }
    stepsTo s { s with a := 0x00#8, f := 0x90#8, pc := 0x0101#16 } = true := by decide

theorem test_vector_D6 :
    let s := { placed 0x0100#16 [0x27#8] with a := 0x99#8, f := 0x20#8 }
    stepsTo s { s with a := 0x9F#8, f := 0x00#8, pc := 0x0101#16 } = true := by decide

theorem test_vector_D9 :
    let s := { placed 0x0100#16 [0x27#8] with a := 0x00#8, f := 0x70#8 }
    stepsTo s { s with a := 0x9A#8, f := 0x50#8, pc := 0x0101#16 } = true := by decide

theorem test_vector_D10 :
    let s := { placed 0x0100#16 [0x2F#8] with a := 0x35#8, f := 0x00#8 }
    stepsTo s { s with a := 0xCA#8, f := 0x60#8, pc := 0x0101#16 } = true := by decide

theorem test_vector_D12 :
    let s := { placed 0x0100#16 [0x37#8] with f := 0xE0#8 }
    stepsTo s { s with f := 0x90#8, pc := 0x0101#16 } = true := by decide

theorem test_vector_D14 :
    let s := { placed 0x0100#16 [0x3F#8] with f := 0x60#8 }
    stepsTo s { s with f := 0x10#8, pc := 0x0101#16 } = true := by decide

theorem test_vector_J1 :
    let s := placed 0x0150#16 [0x18#8, 0xFE#8]
    stepsTo s s = true := by decide

theorem test_vector_J3 :
    let s := placed 0xFFF0#16 [0x18#8, 0x7F#8]
    stepsTo s { s with pc := 0x0071#16 } = true := by decide

theorem test_vector_J4 :
    let s := { placed 0x0107#16 [0x20#8, 0xFB#8] with f := 0x00#8 }
    stepsTo s { s with pc := 0x0104#16 } = true := by decide

theorem test_vector_J5 :
    let s := { placed 0x0107#16 [0x20#8, 0xFB#8] with f := 0x80#8 }
    stepsTo s { s with pc := 0x0109#16 } = true := by decide

theorem test_vector_J7 :
    let s := placed 0x0100#16 [0xC3#8, 0x50#8, 0x01#8]
    stepsTo s { s with pc := 0x0150#16 } = true := by decide

theorem test_vector_J8 :
    let s := { placed 0x0100#16 [0xDA#8, 0x00#8, 0xC0#8] with f := 0x10#8 }
    stepsTo s { s with pc := 0xC000#16 } = true := by decide

theorem test_vector_J10 :
    let s := { placed 0x0100#16 [0xE9#8] with h := 0xFE#8, l := 0xA0#8 }
    stepsTo s { s with pc := 0xFEA0#16 } = true := by decide

theorem test_vector_J11 :
    let s := placed 0x0150#16 [0xCD#8, 0x00#8, 0x02#8]
    stepsTo s { poke s [(0xFFFC#16, 0x53#8), (0xFFFD#16, 0x01#8)] with
        sp := 0xFFFC#16, pc := 0x0200#16 } = true := by decide

theorem test_vector_J14 :
    let s := { placed 0x0150#16 [0xDC#8, 0x00#8, 0x02#8] with f := 0x10#8 }
    stepsTo s { poke s [(0xFFFC#16, 0x53#8), (0xFFFD#16, 0x01#8)] with
        sp := 0xFFFC#16, pc := 0x0200#16 } = true := by decide

theorem test_vector_J15 :
    let s := poke { placed 0x0100#16 [0xC9#8] with
        sp := 0xFFFC#16 } [(0xFFFC#16, 0x53#8), (0xFFFD#16, 0x01#8)]
    stepsTo s { s with sp := 0xFFFE#16, pc := 0x0153#16 } = true := by decide

theorem test_vector_J16 :
    let s := poke { placed 0x0100#16 [0xD0#8] with
        sp := 0xFFFC#16, f := 0x00#8 } [(0xFFFC#16, 0x53#8), (0xFFFD#16, 0x01#8)]
    stepsTo s { s with sp := 0xFFFE#16, pc := 0x0153#16 } = true := by decide

theorem test_vector_J18 :
    let s := poke { placed 0x0100#16 [0xD9#8] with
        sp := 0xFFFC#16 } [(0xFFFC#16, 0x07#8), (0xFFFD#16, 0x01#8)]
    stepsTo s { s with sp := 0xFFFE#16, pc := 0x0107#16, ime := true } = true := by decide

theorem test_vector_J19 :
    let s := placed 0x0200#16 [0xEF#8]
    stepsTo s { poke s [(0xFFFC#16, 0x01#8), (0xFFFD#16, 0x02#8)] with
        sp := 0xFFFC#16, pc := 0x0028#16 } = true := by decide

theorem test_vector_K1 :
    let s := { placed 0x0100#16 [0xC5#8] with b := 0x12#8, c := 0x34#8 }
    stepsTo s { poke s [(0xFFFC#16, 0x34#8), (0xFFFD#16, 0x12#8)] with
        sp := 0xFFFC#16, pc := 0x0101#16 } = true := by decide

theorem test_vector_K3 :
    let s := poke { placed 0x0100#16 [0xD1#8] with
        sp := 0xFFFC#16 } [(0xFFFC#16, 0x34#8), (0xFFFD#16, 0x12#8)]
    stepsTo s { s with
        d := 0x12#8, e := 0x34#8, sp := 0xFFFE#16, pc := 0x0101#16 } = true := by decide

theorem test_vector_K4 :
    let s := poke { placed 0x0100#16 [0xF1#8] with
        sp := 0xFFFC#16 } [(0xFFFC#16, 0x3F#8), (0xFFFD#16, 0x12#8)]
    stepsTo s { s with
        a := 0x12#8, f := 0x30#8, sp := 0xFFFE#16, pc := 0x0101#16 } = true := by decide

theorem test_vector_K5 :
    let s := placed 0x0100#16 [0x31#8, 0xF0#8, 0xDF#8]
    stepsTo s { s with sp := 0xDFF0#16, pc := 0x0103#16 } = true := by decide

theorem test_vector_K6 :
    let s := { placed 0x0100#16 [0x08#8, 0x00#8, 0xC1#8] with sp := 0xFFF8#16 }
    stepsTo s { poke s [(0xC100#16, 0xF8#8), (0xC101#16, 0xFF#8)] with
        pc := 0x0103#16 } = true := by decide

theorem test_vector_K7 :
    let s := { placed 0x0100#16 [0xF9#8] with h := 0xDF#8, l := 0xF0#8 }
    stepsTo s { s with sp := 0xDFF0#16, pc := 0x0101#16 } = true := by decide

theorem test_vector_K8 :
    let s := { placed 0x0100#16 [0xF8#8, 0x02#8] with sp := 0xFFF8#16 }
    stepsTo s { s with h := 0xFF#8, l := 0xFA#8, f := 0x00#8, pc := 0x0102#16 } = true := by decide

theorem test_vector_K16 :
    let s := { placed 0x0100#16 [0xE8#8, 0x02#8] with sp := 0xFFF8#16, f := 0xC0#8 }
    stepsTo s { s with f := 0x00#8, sp := 0xFFFA#16, pc := 0x0102#16 } = true := by decide

theorem test_vector_K17 :
    let s := { placed 0x0100#16 [0xE8#8, 0x80#8] with sp := 0xD000#16 }
    stepsTo s { s with f := 0x00#8, sp := 0xCF80#16, pc := 0x0102#16 } = true := by decide

theorem test_vector_Y1 :
    let s := placed 0x0100#16 [0x00#8]
    stepsTo s { s with pc := 0x0101#16 } = true := by decide

theorem test_vector_Y2 :
    let s := placed 0x0109#16 [0x76#8]
    stepsTo s { s with pc := 0x010A#16, halted := true } = true := by decide

theorem test_vector_Y3 :
    let s := poke (placed 0x0109#16 [0x76#8]) [(0xFF0F#16, 0x04#8)]
    stepsTo s { s with pc := 0x010A#16 } = true := by decide

theorem test_vector_Y6 :
    let s := placed 0x0150#16 [0x10#8, 0x00#8]
    stepsTo s { s with pc := 0x0153#16, stopped := true } = true := by decide

theorem test_vector_Y9 :
    let s := poke { placed 0x0100#16 [0xF3#8] with
        ime := true } [(0xFF0F#16, 0x01#8), (0xFFFF#16, 0x01#8)]
    stepsTo s { s with pc := 0x0101#16, ime := false } = true := by decide

theorem test_vector_Y10 :
    let s := poke (placed 0x0106#16 [0xFB#8]) [(0xFF0F#16, 0x01#8), (0xFFFF#16, 0x01#8)]
    stepsTo s { poke s [(0xFF0F#16, 0x00#8), (0xFFFC#16, 0x07#8), (0xFFFD#16, 0x01#8)] with
        sp := 0xFFFC#16, pc := 0x0040#16 } = true := by decide

theorem test_vector_Y12 :
    let s := { placed 0xFFFF#16 [0xCB#8] with b := 0x01#8 }
    stepsTo s { s with b := 0x02#8, f := 0x00#8, pc := 0x0001#16 } = true := by decide

theorem test_vector_Y13 :
    let s := placed 0x0200#16 [0xD3#8]
    stepsTo s { s with pc := 0x0201#16, fatal := some ⟨0xD3#8, 0x0200#16⟩ } = true := by decide

theorem test_vector_Y14 :
    let s := poke { placed 0x0200#16 [0xFD#8] with
        ime := true } [(0xFF0F#16, 0x01#8), (0xFFFF#16, 0x01#8)]
    stepsTo s { s with pc := 0x0201#16, fatal := some ⟨0xFD#8, 0x0200#16⟩ } = true := by decide

theorem test_vector_I1 :
    let s := poke { placed 0x0100#16 [0x00#8] with
        ime := true } [(0xFF0F#16, 0x01#8), (0xFFFF#16, 0x01#8)]
    stepsTo s { poke s [(0xFF0F#16, 0x00#8), (0xFFFC#16, 0x01#8), (0xFFFD#16, 0x01#8)] with
        sp := 0xFFFC#16, pc := 0x0040#16, ime := false } = true := by decide

theorem test_vector_I2 :
    let s := poke { placed 0x0100#16 [0x00#8] with
        ime := true } [(0xFF0F#16, 0x1F#8), (0xFFFF#16, 0x1C#8)]
    stepsTo s { poke s [(0xFF0F#16, 0x1B#8), (0xFFFC#16, 0x01#8), (0xFFFD#16, 0x01#8)] with
        sp := 0xFFFC#16, pc := 0x0050#16, ime := false } = true := by decide

theorem test_vector_I4 :
    let s := poke { placed 0x0100#16 [0x00#8] with
        ime := true } [(0xFF0F#16, 0xE0#8), (0xFFFF#16, 0xFF#8)]
    stepsTo s { s with pc := 0x0101#16 } = true := by decide

theorem test_vector_I7 :
    let s := poke { placed 0x0100#16 [0xE0#8, 0x0F#8] with
        ime := true, a := 0x02#8 } [(0xFFFF#16, 0x02#8)]
    stepsTo s { poke s [(0xFFFC#16, 0x02#8), (0xFFFD#16, 0x01#8)] with
        sp := 0xFFFC#16, pc := 0x0048#16, ime := false } = true := by decide

theorem test_vector_I8 :
    let s := poke { placed 0x0100#16 [0x00#8] with
        ime := true, sp := 0xFF11#16 } [(0xFF0F#16, 0x01#8), (0xFFFF#16, 0x01#8)]
    stepsTo s { poke s [(0xFF0F#16, 0x00#8), (0xFF10#16, 0x01#8)] with
        sp := 0xFF0F#16, pc := 0x0040#16, ime := false } = true := by decide

theorem test_vector_I9 :
    let s := poke { placed 0x0100#16 [0x00#8] with
        ime := true, sp := 0x0000#16 } [(0xFF0F#16, 0x02#8), (0xFFFF#16, 0x02#8)]
    stepsTo s { poke s [(0xFF0F#16, 0x00#8), (0xFFFE#16, 0x01#8), (0xFFFF#16, 0x01#8)] with
        sp := 0xFFFE#16, pc := 0x0048#16, ime := false } = true := by decide

/-- Vectors K10 and K12: SPE_H_BIT = 4, the other reading of an open parameter. -/
theorem test_vector_K10_K12 :
    spAdd 4 0x00FF#16 0x01#8 = ⟨0x0100#16, true, true⟩ ∧
      spAdd 4 0x0FFF#16 0x01#8 = ⟨0x1000#16, true, true⟩ := by decide

/-- Vector Y7: STOP_EXTRA_ADVANCE = 1, the other reading of an open parameter. -/
theorem test_vector_Y7 :
    State.stopWith { State.reset with pc := 0x0151#16 } 1 =
      { State.reset with pc := 0x0152#16, stopped := true } := by decide

/-! ### Bounds of the memory map (20_memory.md R31, the first and the last address of each region) -/

theorem test_region_bounds :
    List.map region [0x0000#16, 0x3FFF#16, 0x4000#16, 0x7FFF#16, 0x8000#16, 0x9FFF#16, 0xA000#16,
      0xBFFF#16, 0xC000#16, 0xCFFF#16, 0xD000#16, 0xDFFF#16] =
      [.rom0, .rom0, .rom1, .rom1, .vram, .vram, .eram, .eram, .wramA, .wramA, .wramB, .wramB] ∧
    List.map region [0xE000#16, 0xFDFF#16, 0xFE00#16, 0xFE9F#16, 0xFEA0#16, 0xFEFF#16, 0xFF00#16,
      0xFF7F#16, 0xFF80#16, 0xFFFE#16, 0xFFFF#16] =
      [.echo, .echo, .oam, .oam, .unusable, .unusable, .io, .io, .hram, .hram, .ie] := by decide

/-- Writing what an unlisted address reads as removes the cell. -/
theorem test_memory_is_canonical :
    ((State.reset.writeByte 0xC000#16 0x05#8).writeByte 0xE000#16 0x00#8).mem = [] := by decide

/-! ### Witnesses for the hypotheses of the obligations -/

theorem witness_DecodeOfEncodeGivesInstruction : (Instr.ldAN8 0x05#8).wellFormed = true := by decide

theorem witness_EncodeOfDecodeGivesBytes :
    decode [0xCB#8, 0x37#8, 0x00#8] = .ok (.swapA, [0x00#8]) := rfl

theorem witness_FirstByteTellsLength :
    ([] : List Byte).length + 1 = 1 ∧ [0x37#8].length + 1 = 2 ∧ [0x00#8, 0xC0#8].length + 1 = 3 := by
  decide

theorem witness_IllegalOpcodesRaiseFatal :
    ∃ t, decode [0xFD#8, 0x00#8] = .ok (.illegalFD, [0x00#8]) ∧
      exec .illegalFD State.reset = .next t ∧ t.fatal ≠ State.reset.fatal :=
  ⟨_, rfl, rfl, by decide⟩

/-- Boundaries: a one-byte instruction, and a three-byte one that wraps from 0xFFFF to 0x0000. -/
theorem witness_StepRunsDecodedInstruction :
    State.reset.Fetching ∧
    decode [State.reset.readByte 0x0100#16, State.reset.readByte 0x0101#16,
      State.reset.readByte 0x0102#16] = .ok (.nop, [0x00#8, 0x00#8]) ∧
    (let s := placed 0xFFFF#16 [0xC3#8, 0x50#8, 0x01#8]
     s.Fetching ∧ (s.readByte s.pc = 0xC3#8 ∧ s.readByte (s.pc + 1#16) = 0x50#8 ∧
       s.readByte (s.pc + 2#16) = 0x01#8) ∧
     decode [0xC3#8, 0x50#8, 0x01#8] = .ok (.jpA16 0x0150#16, [])) :=
  ⟨by decide, rfl, by decide, by decide, rfl⟩

theorem witness_HaltedStepOnlyChecks :
    let s := { State.reset with halted := true }
    s.fatal = none ∧ s.stopped = false ∧ s.halted = true ∧ s.readByte 0xFF0F#16 = 0#8 := by decide

theorem witness_TerminalCoreNeverChanges :
    State.Terminal { State.reset with stopped := true } ∧
      State.Terminal { State.reset with fatal := some ⟨0xD3#8, 0x0200#16⟩ } := by decide

theorem witness_FatalStepRecordsAndSkipsCheck :
    [0xD3#8, 0xFD#8].all (fun op => decide ((placed 0x0200#16 [op]).Fetching ∧
      (placed 0x0200#16 [op]).readByte 0x0200#16 = op)) = true := by decide

theorem witness_StatusChangedOnlyByItsInstructions :
    (∃ t, exec .ei State.reset = .next t ∧ t.ime ≠ State.reset.ime) ∧
    (∃ t, exec .halt State.reset = .next t ∧ t.halted ≠ State.reset.halted) ∧
    (∃ t, exec .stop State.reset = .next t ∧ t.stopped ≠ State.reset.stopped) :=
  ⟨⟨_, rfl, by decide⟩, ⟨_, rfl, by decide⟩, ⟨_, rfl, by decide⟩⟩

theorem witness_RunLoopReportsFatal :
    (⟨State.reset, false, none⟩ : RunState).running = false ∧
    stepsTo State.reset { State.reset with pc := 0x0101#16 } = true ∧
    (let s := placed 0x0200#16 [0xD3#8]
     stepsTo s { s with pc := 0x0201#16, fatal := some ⟨0xD3#8, 0x0200#16⟩ } = true) := by decide

theorem witness_StepKeepsInvariant :
    State.reset.Inv ∧ stepsTo State.reset { State.reset with pc := 0x0101#16 } = true := by decide

/-- A step that stores, at both ends of the ROM. -/
theorem witness_StepKeepsRom :
    let s := { placed 0xC000#16 [0x77#8] with h := 0x7F#8, l := 0xFF#8 }
    s.Inv ∧ stepsTo s { s with pc := 0xC001#16 } = true ∧ (0x0000#16).toNat < 0x8000 ∧
      (0x7FFF#16).toNat < 0x8000 := by decide

theorem witness_PowerOnValues :
    (0xFE9F#16).toNat < 0xFEA0 ∧ 0xFEFF < (0xFF00#16).toNat ∧ 0xFEFF < (0xFFFF#16).toNat := by decide

theorem witness_LoadRomPlacesImage :
    (0x7FFF#16).toNat < 0x8000 ∧ 0x8000 ≤ (0x8000#16).toNat ∧
      (powerOn [0x3E#8, 0x05#8]).readByte 0x0001#16 = 0x05#8 := by decide

theorem witness_ReadAfterWrite :
    State.reset.mem.wf ∧ region 0xFEA0#16 = .unusable ∧ region 0xFEFF#16 = .unusable ∧
      region 0x3FFF#16 = .rom0 ∧ region 0x4000#16 = .rom1 ∧
      [0x8000#16, 0xE000#16, 0xFFFF#16].all (fun a =>
        decide (region a ≠ .rom0 ∧ region a ≠ .rom1 ∧ region a ≠ .unusable)) = true := by decide

theorem witness_EchoMirrorsWorkRam :
    State.reset.mem.wf ∧ 0xE000 ≤ (0xE000#16).toNat ∧ (0xE000#16).toNat ≤ 0xFDFF ∧
      0xE000 ≤ (0xFDFF#16).toNat ∧ (0xFDFF#16).toNat ≤ 0xFDFF ∧ 0xDE00 ≤ (0xDE00#16).toNat ∧
      (0xDFFF#16).toNat ≤ 0xDFFF ∧ storageAddress 0xDFFF#16 = storageAddress 0xDFFF#16 := by decide

theorem witness_CanonicalMemoryIsItsReads :
    Memory.wf [(0xC000, 0x05#8)] ∧
      ∀ k, Memory.get [(0xC000, 0x05#8)] k = Memory.get [(0xC000, 0x05#8)] k :=
  ⟨by decide, fun _ => rfl⟩

theorem witness_WordsAreLittleEndian :
    State.reset.mem.wf ∧ writable 0xFFFE#16 = true ∧ writable (0xFFFE#16 + 1#16) = true := by decide

theorem witness_FetchSeesStoredByte :
    let s := { State.reset with pc := 0xC000#16 }
    s.mem.wf ∧ s.Fetching ∧ writable s.pc = true ∧ whole [0x3C#8] = some .incA ∧
      Instr.incA ≠ .prefixCb := by decide

/-- Boundaries: the highest and the lowest priority source. -/
theorem witness_InterruptIsTaken :
    [(0, 0x01#8), (4, 0x10#8)].all (fun p =>
      let s := { poke State.reset [(0xFF0F#16, p.2), (0xFFFF#16, 0x1F#8)] with ime := true }
      decide (s.mem.wf ∧ s.ime = true ∧ p.1 < 5 ∧
        (s.readByte 0xFF0F#16 &&& s.readByte 0xFFFF#16).getLsbD p.1 = true ∧
        ∀ j, j < p.1 → (s.readByte 0xFF0F#16 &&& s.readByte 0xFFFF#16).getLsbD j = false)) =
      true := by decide

theorem witness_NoInterruptWithoutEnable :
    State.reset.ime = false ∧
    (let s := { poke State.reset [(0xFF0F#16, 0xE0#8), (0xFFFF#16, 0xFF#8)] with ime := true }
     s.readByte 0xFF0F#16 &&& s.readByte 0xFFFF#16 &&& 0x1F#8 = 0#8) := by decide

theorem witness_EiAndDiActInTheirOwnStep :
    [0xFB#8, 0xF3#8].all (fun op =>
      let s := poke (placed 0x0106#16 [op]) [(0xFF0F#16, 0x01#8), (0xFFFF#16, 0x01#8)]
      decide (s.Fetching ∧ s.readByte 0xFF0F#16 &&& s.readByte 0xFFFF#16 &&& 0x1F#8 ≠ 0#8 ∧
        s.readByte s.pc = op ∧ s.mem.wf)) = true := by decide

theorem witness_RetiDispatchesPendingRequest :
    let s := { poke (placed 0x0040#16 [0xD9#8]) [(0xFF0F#16, 0x04#8), (0xFFFF#16, 0x05#8)] with
      sp := 0xFFFC#16 }
    s.Fetching ∧ s.mem.wf ∧ s.readByte s.pc = 0xD9#8 ∧
      s.readByte 0xFF0F#16 &&& s.readByte 0xFFFF#16 &&& 0x1F#8 ≠ 0#8 ∧ s.sp ≠ 0xFF0F#16 ∧
      s.sp ≠ 0xFF0E#16 := by decide

/-- The memory hypothesis of every statement about a store (StoreAtHl, StoreAccumulator,
AccumulatorWithHlAdjust, IncDecOperand, RotateMemory, ResAndSet, Calls, PushPair, WideLoads): met by a
state with cells in it. -/
theorem witness_stores : (poke State.reset [(0xC000#16, 0x05#8), (0xFFFF#16, 0x1F#8)]).mem.wf := by
  decide

theorem witness_AddThenSubRestoresA : R8.b ≠ R8.a := by decide

theorem witness_BitTest_ResAndSet : (0 : Fin 8) ≠ 7 ∧ 7 < 8 := by decide

theorem witness_DecimalAdjust :
    State.reset.flagN = false ∧ State.flagN { State.reset with f := 0x70#8 } = true := by decide

/-- Boundaries: 99 and 99, 00 and 00. -/
theorem witness_DecimalAdjustIsBcd :
    (9 ≤ 9 ∧ State.a { State.reset with a := 0x99#8 } = 0x99#8 ∧ (0x99#8).toNat = 16 * 9 + 9) ∧
      (0 ≤ 9 ∧ (0x00#8).toNat = 16 * 0 + 0) := by decide

/-- Each condition both holds and fails somewhere (Jumps, Calls, Returns). -/
theorem witness_conditions :
    List.map (Claims.holds { State.reset with f := 0x00#8 }) [.nz, .z, .nc, .c] =
      [true, false, true, false] ∧
    List.map (Claims.holds { State.reset with f := 0x90#8 }) [.nz, .z, .nc, .c] =
      [false, true, false, true] := by decide

theorem witness_PopPair : Rp2.bc ≠ .af ∧ Rp2.af = .af := by decide

theorem witness_PushThenPopMovesPair :
    Rp2.de ≠ .af ∧ State.reset.mem.wf ∧ writable (State.reset.sp - 2#16) = true ∧
      writable (State.reset.sp - 1#16) = true := by decide

theorem witness_StopSetsStopped :
    (placed 0x0150#16 [0x10#8]).Fetching ∧ (placed 0x0150#16 [0x10#8]).readByte 0x0150#16 = 0x10#8 ∧
      (placed 0x0150#16 [0x10#8]).ime = false := by decide

/-- MEM_INIT fills RAM, I/O and IE, and neither ROM nor UNUSABLE (00_scope.md R4). -/
theorem test_memInit_off_rom :
    (powerOnStorage fun _ => 0x55#8).get 0x0150 = 0x00#8 ∧
      (powerOnStorage fun _ => 0x55#8).get 0x7FFF = 0x00#8 ∧
      (powerOnStorage fun _ => 0x55#8).get 0x8000 = 0x55#8 ∧
      (powerOnStorage fun _ => 0x55#8).get 0xFFFF = 0x55#8 := by
  simp only [Memory.get_powerOnStorage]
  decide

/-- OpenParameters: all four admitted pairs of values. -/
theorem witness_OpenParameters :
    Config.Params.Valid ⟨1, 4⟩ ∧ Config.Params.Valid ⟨1, 12⟩ ∧ Config.Params.Valid ⟨2, 4⟩ ∧
      Config.Params.Valid ⟨2, 12⟩ := by decide

/-- Log entry 20: a PC next to UNUSABLE moves to 0x0100, where the next step finds the instruction. -/
theorem test_withFetchWord_unusable :
    (State.withFetchWord { State.reset with pc := 0xFE9F#16 } 8 0x3C).pc = 0x0100#16 ∧
      (State.withFetchWord { State.reset with pc := 0xFE9F#16 } 8 0x3C).fetchInstr.1 = .incA := by
  decide

end Sys2Proof.Tests
end

section
/-! Memory accesses (20_memory.md R32 to R36): O19 and O20. Everything an access does is decided by the
two functions of its address, `storageAddress` and `writable`. -/

namespace Sys2Proof.Machine

/-! ### The two functions of an address, by region -/

/-- The three regions that discard a write (R33). -/
theorem writable_eq_false_iff {a : Word} :
    writable a = false ↔ region a = .rom0 ∨ region a = .rom1 ∨ region a = .unusable := by
  unfold writable
  cases region a <;> simp

theorem storageAddress_of_unusable {a : Word} (h : region a = .unusable) : storageAddress a = none := by
  simp [storageAddress, h]

/-- Subtracting 0x2000 from an ECHO address does not wrap. -/
theorem toNat_sub_0x2000_of_echo {a : Word} (h : 0xE000 ≤ a.toNat) :
    (a - 0x2000#16).toNat = a.toNat - 0x2000 :=
  BitVec.toNat_sub_of_le (BitVec.le_def.mpr (Nat.le_trans (by decide) h))

/-- The work RAM arrays behind ECHO (R34): A up to 0xEFFF, B above. -/
theorem region_sub_0x2000_of_echo {a : Word} (hlo : 0xE000 ≤ a.toNat) (hhi : a.toNat ≤ 0xFDFF) :
    region (a - 0x2000#16) = if a.toNat ≤ 0xEFFF then .wramA else .wramB := by
  unfold region
  rw [toNat_sub_0x2000_of_echo hlo]
  have hvram : ¬ a.toNat - 0x2000 ≤ 0xBFFF := by omega
  have hwramB : a.toNat - 0x2000 ≤ 0xDFFF := by omega
  have hwramA : a.toNat - 0x2000 ≤ 0xCFFF ↔ a.toNat ≤ 0xEFFF := by omega
  unfold regionOf
  rw [if_neg (by omega), if_neg (by omega), if_neg (by omega), if_neg hvram, if_pos hwramB]
  simp only [hwramA]

theorem storageAddress_sub_0x2000_of_echo {a : Word} (hlo : 0xE000 ≤ a.toNat)
    (hhi : a.toNat ≤ 0xFDFF) : storageAddress (a - 0x2000#16) = storageAddress a := by
  rw [storageAddress_eq, storageAddress_eq, toNat_sub_0x2000_of_echo hlo, if_neg (by omega),
    if_neg (by omega), if_neg (by omega), if_pos ⟨hlo, hhi⟩]

/-- ECHO ends before it reaches the last 0x200 bytes of work RAM B (R34). -/
theorem eq_of_storageAddress_eq_of_unmirrored {a b : Word} (hlo : 0xDE00 ≤ a.toNat)
    (hhi : a.toNat ≤ 0xDFFF) (h : storageAddress b = storageAddress a) : b = a := by
  have ha : storageAddress a = some a.toNat := by
    rw [storageAddress_eq, if_neg (by omega), if_neg (by omega)]
  rw [ha, storageAddress_eq] at h
  split at h
  · cases h
  · split at h
    · have := Option.some.inj h
      omega
    · exact BitVec.eq_of_toNat_eq (Option.some.inj h)

/-! ### Byte accesses -/

theorem State.readByte_of_unusable (s : State) {a : Word} (h : region a = .unusable) :
    s.readByte a = 0xFF#8 := by
  simp [State.readByte, storageAddress_of_unusable h]

/-- Two addresses of one byte read alike. -/
theorem State.readByte_eq_of_storageAddress_eq (s : State) {a b : Word}
    (h : storageAddress b = storageAddress a) : s.readByte b = s.readByte a := by
  unfold State.readByte
  rw [h]

/-- A stored byte is read through every address of it. -/
theorem State.readByte_writeByte_same {s : State} (hm : s.mem.wf) {a b : Word}
    (hw : writable a = true) (h : storageAddress b = storageAddress a) (v : Byte) :
    (s.writeByte a v).readByte b = v := by
  rw [State.readByte_writeByte hm, if_pos ⟨hw, h⟩]

/-- A byte write changes nothing but memory. -/
theorem State.writeByte_with_mem (s : State) (a : Word) (v : Byte) :
    { s.writeByte a v with mem := s.mem } = s := by
  rw [State.writeByte_eq]

/-! ### The obligations -/

/-- Settles O19: `writable` says whether the write is stored, `State.readByte_writeByte` where it is
seen. -/
theorem readAfterWrite : Obligations.ReadAfterWrite := by
  intro s a v hm
  refine ⟨s.readByte_of_unusable, fun h => State.writeByte_discarded (writable_eq_false_iff.mpr h) v,
    fun hrom0 hrom1 hunusable b => ?_, s.writeByte_with_mem a v⟩
  have hw : writable a = true := by
    rw [← Bool.not_eq_false, writable_eq_false_iff]
    simp [hrom0, hrom1, hunusable]
  simp [State.readByte_writeByte hm, hw]

/-- Settles O20: an ECHO address and the address 0x2000 below it own the same byte, and both store. -/
theorem echoMirrorsWorkRam : Obligations.EchoMirrorsWorkRam := by
  refine ⟨fun s a v hlo hhi => ?_, fun a b hlo hhi => eq_of_storageAddress_eq_of_unmirrored hlo hhi⟩
  have hsame := storageAddress_sub_0x2000_of_echo hlo hhi
  have hsub := toNat_sub_0x2000_of_echo hlo
  have hecho : writable a = true := writable_iff.mpr (by omega)
  have hwram : writable (a - 0x2000#16) = true := writable_iff.mpr (by omega)
  exact ⟨region_sub_0x2000_of_echo hlo hhi, s.readByte_eq_of_storageAddress_eq hsame.symm,
    fun hm => ⟨State.readByte_writeByte_same hm hecho hsame v,
      State.readByte_writeByte_same hm hwram hsame.symm v⟩⟩

end Sys2Proof.Machine
end

section
/-! 8-bit loads (40_load8.md): O28 to O32. Each instruction ends in one of four states: a register
written, a byte stored, or one of these two with HL adjusted after it. What such a state keeps is said
once per ending, and every obligation is then the instruction's equation for `exec` and its ending. -/

namespace Sys2Proof.Machine

/-! ### The state after a register write and after a byte store -/

theorem State.controlKept_writeR8 (s : State) (r : R8) (v : Byte) :
    Claims.ControlKept s (s.writeR8 r v) := by
  simp [Claims.ControlKept, Claims.StatusKept]

theorem State.controlKept_writeByte (s : State) (addr : Word) (v : Byte) :
    Claims.ControlKept s (s.writeByte addr v) := by
  simp [Claims.ControlKept, Claims.StatusKept]

theorem State.storesByte_writeByte (s : State) (addr : Word) (v : Byte) :
    Claims.StoresByte s (s.writeByte addr v) addr v :=
  fun hm => State.readByte_writeByte hm addr v

/-- An instruction that ends in a write of register `r` sets `r` and nothing else. -/
theorem setsOnly_of_exec_eq_writeR8 {i : Instr} {s : State} {r : R8} {v : Byte}
    (h : exec i s = .next (s.writeR8 r v)) :
    ∃ t, exec i s = .next t ∧ Claims.RegSet s t r v ∧
      t.f = s.f ∧ Claims.ControlKept s t ∧ Claims.MemKept s t :=
  ⟨_, h, fun x => s.readR8_writeR8 r x v, s.writeR8_f r v, s.controlKept_writeR8 r v,
    s.readByte_writeR8 r v⟩

/-- An instruction that ends in a store of a byte changes memory and nothing else. -/
theorem storesOnly_of_exec_eq_writeByte {i : Instr} {s : State} {addr : Word} {v : Byte}
    (h : exec i s = .next (s.writeByte addr v)) :
    ∃ t, exec i s = .next t ∧ Claims.StoresByte s t addr v ∧
      Claims.RegsKept s t ∧ t.f = s.f ∧ Claims.ControlKept s t :=
  ⟨_, h, s.storesByte_writeByte addr v, s.readR8_writeByte addr v, s.writeByte_f addr v,
    s.controlKept_writeByte addr v⟩

/-! ### LD between registers, immediates and the byte at HL (R100 to R104) -/

theorem decodes_ldReg (dst src : R8) :
    Claims.Decodes [Claims.xyz 1#2 (Claims.r8Code dst) (Claims.r8Code src)]
      (Instr.ldReg dst src) := by
  intro rest
  cases dst <;> cases src <;> rfl

theorem decodes_ldRegMem (dst : R8) :
    Claims.Decodes [Claims.xyz 1#2 (Claims.r8Code dst) 6#3] (Instr.ldRegMem dst) := by
  intro rest
  cases dst <;> rfl

theorem decodes_ldRegN8 (dst : R8) (n8 : Byte) :
    Claims.Decodes [Claims.xyz 0#2 (Claims.r8Code dst) 6#3, n8] (Instr.ldRegN8 dst n8) := by
  intro rest
  cases dst <;> rfl

theorem decodes_ldMemReg (r : R8) :
    Claims.Decodes [Claims.xyz 1#2 6#3 (Claims.r8Code r)] (Instr.ldMemReg r) := by
  intro rest
  cases r <;> rfl

theorem exec_ldReg (dst src : R8) (s : State) :
    exec (Instr.ldReg dst src) s = .next (s.writeR8 dst (s.readR8 src)) := by
  cases dst <;> cases src <;> rfl

theorem exec_ldRegMem (dst : R8) (s : State) :
    exec (Instr.ldRegMem dst) s = .next (s.writeR8 dst (s.readByte s.hl)) := by
  cases dst <;> rfl

theorem exec_ldRegN8 (dst : R8) (n8 : Byte) (s : State) :
    exec (Instr.ldRegN8 dst n8) s = .next (s.writeR8 dst n8) := by
  cases dst <;> rfl

theorem exec_ldMemReg (r : R8) (s : State) :
    exec (Instr.ldMemReg r) s = .next (s.writeByte s.hl (s.readR8 r)) := by
  cases r <;> rfl

theorem exec_ldMemHlN8 (n8 : Byte) (s : State) :
    exec (.ldMemHlN8 n8) s = .next (s.writeByte s.hl n8) := rfl

/-- Settles O28: all three forms end in a write of the destination register. -/
theorem loadRegister : Obligations.LoadRegister :=
  ⟨fun dst src => ⟨decodes_ldReg dst src,
      fun s => setsOnly_of_exec_eq_writeR8 (exec_ldReg dst src s)⟩,
    fun dst => ⟨decodes_ldRegMem dst,
      fun s => setsOnly_of_exec_eq_writeR8 (exec_ldRegMem dst s)⟩,
    fun dst n8 => ⟨decodes_ldRegN8 dst n8,
      fun s => setsOnly_of_exec_eq_writeR8 (exec_ldRegN8 dst n8 s)⟩⟩

/-- Settles O29: both forms end in a store at HL. -/
theorem storeAtHl : Obligations.StoreAtHl :=
  ⟨fun r => ⟨decodes_ldMemReg r,
      fun s => storesOnly_of_exec_eq_writeByte (exec_ldMemReg r s)⟩,
    fun n8 => ⟨Laws.RoundTrip.ldMemHlN8 n8 rfl,
      fun s => storesOnly_of_exec_eq_writeByte (exec_ldMemHlN8 n8 s)⟩⟩

/-! ### LD between A and an address (R105 to R108, R113 to R118)

The model writes an address of the high page as a pair of bytes, the spec as a sum. -/

theorem exec_ldhAMemA8 (a8 : Byte) (s : State) :
    exec (.ldhAMemA8 a8) s = .next (s.loadA (0xFF00#16 + a8.setWidth 16)) := by
  rw [← highPage_eq]
  rfl

theorem exec_ldAMemC (s : State) :
    exec .ldAMemC s = .next (s.loadA (0xFF00#16 + s.c.setWidth 16)) := by
  rw [← highPage_eq]
  rfl

theorem exec_ldhMemA8A (a8 : Byte) (s : State) :
    exec (.ldhMemA8A a8) s = .next (s.storeA (0xFF00#16 + a8.setWidth 16)) := by
  rw [← highPage_eq]
  rfl

theorem exec_ldMemCA (s : State) :
    exec .ldMemCA s = .next (s.storeA (0xFF00#16 + s.c.setWidth 16)) := by
  rw [← highPage_eq]
  rfl

/-- Settles O30: each form is `State.loadA`, a write of register A, at its own address. -/
theorem loadAccumulator : Obligations.LoadAccumulator := by
  intro a16 a8
  refine ⟨Laws.RoundTrip.ldAMemBc rfl, Laws.RoundTrip.ldAMemDe rfl,
    Laws.RoundTrip.ldAMemA16 a16 rfl, Laws.RoundTrip.ldhAMemA8 a8 rfl,
    Laws.RoundTrip.ldAMemC rfl, fun s p hp => ?_⟩
  have hexec : exec p.1 s = .next (s.loadA p.2) := by
    simp only [List.mem_cons, List.not_mem_nil, or_false] at hp
    obtain rfl | rfl | rfl | rfl | rfl := hp
    · rfl
    · rfl
    · rfl
    · exact exec_ldhAMemA8 a8 s
    · exact exec_ldAMemC s
  exact setsOnly_of_exec_eq_writeR8 (r := .a) hexec

/-- Settles O31: each form is `State.storeA`, a store of A, at its own address. -/
theorem storeAccumulator : Obligations.StoreAccumulator := by
  intro a16 a8
  refine ⟨Laws.RoundTrip.ldMemBcA rfl, Laws.RoundTrip.ldMemDeA rfl,
    Laws.RoundTrip.ldMemA16A a16 rfl, Laws.RoundTrip.ldhMemA8A a8 rfl,
    Laws.RoundTrip.ldMemCA rfl, fun s p hp => ?_⟩
  have hexec : exec p.1 s = .next (s.storeA p.2) := by
    simp only [List.mem_cons, List.not_mem_nil, or_false] at hp
    obtain rfl | rfl | rfl | rfl | rfl := hp
    · rfl
    · rfl
    · rfl
    · exact exec_ldhMemA8A a8 s
    · exact exec_ldMemCA s
  exact storesOnly_of_exec_eq_writeByte hexec

/-! ### LD of A at HL with HL adjusted (R109 to R112) -/

@[simp] theorem State.readByte_setHl (s : State) (v a : Word) :
    (s.setHl v).readByte a = s.readByte a := rfl

theorem State.readRp_setHl (s : State) (v : Word) (q : Rp) :
    (s.setHl v).readRp q = if q = .hl then v else s.readRp q :=
  s.readRp_writeRp .hl q v

@[simp] theorem State.readRp_writeByte (s : State) (a : Word) (v : Byte) (q : Rp) :
    (s.writeByte a v).readRp q = s.readRp q := by
  cases q <;> simp [State.readRp, State.bc, State.de, State.hl]

/-- No pair has A for a half. -/
@[simp] theorem State.readRp_writeR8_a (s : State) (v : Byte) (q : Rp) :
    (s.writeR8 .a v).readRp q = s.readRp q := by
  cases q <;> rfl

/-- An instruction that ends in a store of a byte and a write of HL changes memory and HL alone. -/
theorem storesAndSetsHl_of_exec_eq {i : Instr} {s : State} {addr w : Word} {v : Byte}
    (h : exec i s = .next ((s.writeByte addr v).setHl w)) :
    ∃ t, exec i s = .next t ∧ Claims.StoresByte s t addr v ∧ Claims.PairSet s t .hl w ∧
      t.f = s.f ∧ Claims.ControlKept s t := by
  refine ⟨_, h, s.storesByte_writeByte addr v, ⟨fun q => ?_, s.writeByte_a addr v⟩,
    s.writeByte_f addr v, s.controlKept_writeByte addr v⟩
  rw [State.readRp_setHl, State.readRp_writeByte]

/-- An instruction that ends in a write of A and a write of HL changes A and HL alone. -/
theorem loadsAndSetsHl_of_exec_eq {i : Instr} {s : State} {w : Word} {v : Byte}
    (h : exec i s = .next ((s.writeR8 .a v).setHl w)) :
    ∃ t, exec i s = .next t ∧ t.a = v ∧ (∀ q, t.readRp q = if q = .hl then w else s.readRp q) ∧
      t.f = s.f ∧ Claims.ControlKept s t ∧ Claims.MemKept s t := by
  refine ⟨_, h, rfl, fun q => ?_, s.writeR8_f .a v, s.controlKept_writeR8 .a v,
    s.readByte_writeR8 .a v⟩
  rw [State.readRp_setHl, State.readRp_writeR8_a]

/-- The store comes before the adjustment and leaves HL as it was. -/
theorem State.adjustHl_storeA (s : State) (addr k : Word) :
    (s.storeA addr).adjustHl k = (s.writeByte addr s.a).setHl (s.hl + k) :=
  congrArg (fun hl => (s.writeByte addr s.a).setHl (hl + k)) (s.readRp_writeByte addr s.a .hl)

theorem exec_ldMemHlIncA (s : State) :
    exec .ldMemHlIncA s = .next ((s.writeByte s.hl s.a).setHl (s.hl + 1#16)) :=
  congrArg Host.Outcome.next (s.adjustHl_storeA s.hl 1#16)

theorem exec_ldMemHlDecA (s : State) :
    exec .ldMemHlDecA s = .next ((s.writeByte s.hl s.a).setHl (s.hl - 1#16)) := by
  rw [BitVec.sub_eq_add_neg]
  exact congrArg Host.Outcome.next (s.adjustHl_storeA s.hl (-1#16))

theorem exec_ldAMemHlInc (s : State) :
    exec .ldAMemHlInc s = .next ((s.writeR8 .a (s.readByte s.hl)).setHl (s.hl + 1#16)) := rfl

theorem exec_ldAMemHlDec (s : State) :
    exec .ldAMemHlDec s = .next ((s.writeR8 .a (s.readByte s.hl)).setHl (s.hl - 1#16)) := by
  rw [BitVec.sub_eq_add_neg]
  rfl

/-- Settles O32: the access of each form is at the HL before, and the write of HL follows it. -/
theorem accumulatorWithHlAdjust : Obligations.AccumulatorWithHlAdjust := by
  refine ⟨Laws.RoundTrip.ldMemHlIncA rfl, Laws.RoundTrip.ldMemHlDecA rfl,
    Laws.RoundTrip.ldAMemHlInc rfl, Laws.RoundTrip.ldAMemHlDec rfl,
    fun s => ⟨fun p hp => ?stores, fun p hp => ?loads⟩⟩
  case stores =>
    simp only [List.mem_cons, List.not_mem_nil, or_false] at hp
    obtain rfl | rfl := hp
    · exact storesAndSetsHl_of_exec_eq (exec_ldMemHlIncA s)
    · exact storesAndSetsHl_of_exec_eq (exec_ldMemHlDecA s)
  case loads =>
    simp only [List.mem_cons, List.not_mem_nil, or_false] at hp
    obtain rfl | rfl := hp
    · exact loadsAndSetsHl_of_exec_eq (exec_ldAMemHlInc s)
    · exact loadsAndSetsHl_of_exec_eq (exec_ldAMemHlDec s)

end Sys2Proof.Machine
end

section
/-! 8-bit arithmetic and logic (41_alu8.md): O33 to O38. Each instruction ends in a result written to
a register, stored at HL or discarded, and then in the four flags of that result. What each ending
keeps is said once, and an obligation is the instruction's equation for `exec`, its ending and the
laws of its result and flags. -/

namespace Sys2Proof.Machine

/-! ### A result and its flags, as comparisons on numbers (R131, R132) -/

theorem add8_z (a b : Byte) (cin : Bool) :
    (add8 a b cin).z = decide ((a.toNat + b.toNat + cin.toNat) % 256 = 0) :=
  decide_eq_decide.mpr (by rw [← BitVec.toNat_inj]; rfl)

theorem sub8_z (a b : Byte) (cin : Bool) :
    (sub8 a b cin).z = decide (a - b - BitVec.ofNat 8 cin.toNat = 0#8) := by
  rw [← sub8_r]
  rfl

/-! ### The state after a result and its flags -/

/-- The write before the flags may change anything but F. -/
theorem State.flagsAre_setFlagsOf {s u : State} (hf : u.f = s.f) (out : AluOut) :
    Claims.FlagsAre s (u.setFlagsOf out) out.z out.n out.h out.c :=
  ⟨u.flagZ_setFlags .., u.flagN_setFlags .., u.flagH_setFlags .., u.flagC_setFlags ..,
    hf ▸ u.low_setFlags ..⟩

/-- Flags alone: the ending of CP. -/
theorem State.flagsOnly_setFlagsOf (s : State) (out : AluOut) :
    Claims.RegsKept s (s.setFlagsOf out) ∧
      Claims.FlagsAre s (s.setFlagsOf out) out.z out.n out.h out.c ∧
      Claims.ControlKept s (s.setFlagsOf out) ∧ Claims.MemKept s (s.setFlagsOf out) :=
  ⟨fun x => s.readR8_setFlags _ _ _ _ x, State.flagsAre_setFlagsOf rfl out,
    ⟨rfl, rfl, rfl, rfl, rfl, rfl⟩, fun _ => rfl⟩

/-- A result written to register `r`, then its flags. -/
theorem State.regAndFlags_writeR8 (s : State) (r : R8) (out : AluOut) :
    Claims.RegSet s ((s.writeR8 r out.r).setFlagsOf out) r out.r ∧
      Claims.FlagsAre s ((s.writeR8 r out.r).setFlagsOf out) out.z out.n out.h out.c ∧
      Claims.ControlKept s ((s.writeR8 r out.r).setFlagsOf out) ∧
      Claims.MemKept s ((s.writeR8 r out.r).setFlagsOf out) :=
  ⟨fun x => (State.readR8_setFlags _ _ _ _ _ x).trans (s.readR8_writeR8 r x out.r),
    State.flagsAre_setFlagsOf (s.writeR8_f r out.r) out, s.controlKept_writeR8 r out.r,
    s.readByte_writeR8 r out.r⟩

/-- A result stored at `addr`, then its flags. -/
theorem State.byteAndFlags_writeByte (s : State) (addr : Word) (out : AluOut) :
    Claims.StoresByte s ((s.writeByte addr out.r).setFlagsOf out) addr out.r ∧
      Claims.FlagsAre s ((s.writeByte addr out.r).setFlagsOf out) out.z out.n out.h out.c ∧
      Claims.RegsKept s ((s.writeByte addr out.r).setFlagsOf out) ∧
      Claims.ControlKept s ((s.writeByte addr out.r).setFlagsOf out) :=
  ⟨s.storesByte_writeByte addr out.r, State.flagsAre_setFlagsOf (s.writeByte_f addr out.r) out,
    fun x => (State.readR8_setFlags _ _ _ _ _ x).trans (s.readR8_writeByte addr out.r x),
    s.controlKept_writeByte addr out.r⟩

/-! ### The operand forms of ALU[op] (R130, R133 to R156) -/

theorem decodes_aluReg (op : AluOp) (r : R8) :
    Claims.Decodes [Claims.xyz 2#2 (Claims.aluCode op) (Claims.r8Code r)] (Instr.aluReg op r) := by
  intro rest
  cases op <;> cases r <;> rfl

theorem decodes_aluMem (op : AluOp) :
    Claims.Decodes [Claims.xyz 2#2 (Claims.aluCode op) 6#3] (Instr.aluMem op) := by
  intro rest
  cases op <;> rfl

theorem decodes_aluN8 (op : AluOp) (n8 : Byte) :
    Claims.Decodes [Claims.xyz 3#2 (Claims.aluCode op) 6#3, n8] (Instr.aluN8 op n8) := by
  intro rest
  cases op <;> rfl

theorem exec_aluReg (op : AluOp) (r : R8) (s : State) :
    exec (Instr.aluReg op r) s = .next (s.alu op (s.readR8 r)) := by
  cases op <;> cases r <;> rfl

theorem exec_aluMem (op : AluOp) (s : State) :
    exec (Instr.aluMem op) s = .next (s.alu op (s.readByte s.hl)) := by
  cases op <;> rfl

theorem exec_aluN8 (op : AluOp) (n8 : Byte) (s : State) :
    exec (Instr.aluN8 op n8) s = .next (s.alu op n8) := by
  cases op <;> rfl

/-- The three forms differ in where the operand byte comes from and in nothing else. -/
theorem aluForms_of_alu {op : AluOp} {E : State → State → Byte → Prop}
    (h : ∀ s b, E s (s.alu op b) b) : Claims.AluForms op E :=
  ⟨fun r => ⟨decodes_aluReg op r, fun s => ⟨_, exec_aluReg op r s, h s _⟩⟩,
    ⟨decodes_aluMem op, fun s => ⟨_, exec_aluMem op s, h s _⟩⟩,
    fun n8 => ⟨decodes_aluN8 op n8, fun s => ⟨_, exec_aluN8 op n8 s, h s n8⟩⟩⟩

/-! ### ADD, ADC, SUB, SBC and CP -/

theorem State.adds_add8 (s : State) (b : Byte) (cin : Bool) :
    Claims.Adds s ((s.writeR8 .a (add8 s.a b cin).r).setFlagsOf (add8 s.a b cin)) b cin.toNat := by
  have hout := s.regAndFlags_writeR8 .a (add8 s.a b cin)
  rw [add8_z] at hout
  exact hout

/-- `Sub8` gives the flags of R132 whether or not its result is written. -/
theorem subFlags_of_flagsAre_sub8 {s t : State} {b : Byte} {cin : Bool}
    (hflags : Claims.FlagsAre s t (sub8 s.a b cin).z (sub8 s.a b cin).n (sub8 s.a b cin).h
      (sub8 s.a b cin).c)
    (hkept : Claims.ControlKept s t ∧ Claims.MemKept s t) : Claims.SubFlags s t b cin.toNat := by
  rw [sub8_z, sub8_h, sub8_c] at hflags
  exact ⟨hflags, hkept⟩

theorem State.subtracts_sub8 (s : State) (b : Byte) (cin : Bool) :
    Claims.RegSet s ((s.writeR8 .a (sub8 s.a b cin).r).setFlagsOf (sub8 s.a b cin)) .a
        (s.a - b - BitVec.ofNat 8 cin.toNat) ∧
      Claims.SubFlags s ((s.writeR8 .a (sub8 s.a b cin).r).setFlagsOf (sub8 s.a b cin)) b
        cin.toNat := by
  obtain ⟨hreg, hflags, hkept⟩ := s.regAndFlags_writeR8 .a (sub8 s.a b cin)
  refine ⟨?_, subFlags_of_flagsAre_sub8 hflags hkept⟩
  rwa [← sub8_r]

/-- The flags of A - b compare A with b (R154). -/
theorem flagZ_iff_and_flagC_iff_of_subFlags {s t : State} {b : Byte}
    (h : Claims.SubFlags s t b 0) :
    (t.flagZ = true ↔ s.a = b) ∧ (t.flagC = true ↔ s.a.toNat < b.toNat) := by
  obtain ⟨⟨hz, -, -, hc, -⟩, -⟩ := h
  rw [hz, hc, decide_eq_true_iff, decide_eq_true_iff, BitVec.sub_zero]
  exact ⟨sub_eq_zero, Iff.rfl⟩

/-- Settles O33: ADD and ADC are `add8` written to A, with carry in 0 and C. -/
theorem addAndAdc : Obligations.AddAndAdc :=
  ⟨aluForms_of_alu fun s b => s.adds_add8 b false,
    aluForms_of_alu fun s b => s.adds_add8 b s.flagC⟩

/-- Settles O34: SUB and SBC are `sub8` written to A, with borrow in 0 and C. -/
theorem subAndSbc : Obligations.SubAndSbc := by
  refine ⟨aluForms_of_alu fun s b => ?_, aluForms_of_alu fun s b => s.subtracts_sub8 b s.flagC⟩
  obtain ⟨hreg, hflags⟩ := s.subtracts_sub8 b false
  rw [Bool.toNat_false, BitVec.sub_zero] at hreg
  exact ⟨hreg, hflags⟩

/-- Settles O36: CP is the flags of `sub8` alone. -/
theorem compareWritesOnlyFlags : Obligations.CompareWritesOnlyFlags := by
  refine aluForms_of_alu fun s b => ?_
  obtain ⟨hregs, hflags, hkept⟩ := s.flagsOnly_setFlagsOf (sub8 s.a b false)
  have hsub : Claims.SubFlags s (s.alu .cp b) b 0 := subFlags_of_flagsAre_sub8 hflags hkept
  exact ⟨hregs, hsub, flagZ_iff_and_flagC_iff_of_subFlags hsub⟩

theorem sub8_add8_r (a b : Byte) : (sub8 (add8 a b false).r b false).r = a := by
  rw [sub8_r, add8_r]
  simp

/-- Subtracting the byte that was added restores A (R161). -/
theorem State.regsKept_alu_add_sub (s : State) (b : Byte) :
    Claims.RegsKept s ((s.alu .add b).alu .sub b) := by
  intro x
  rw [State.readR8_alu, State.readR8_alu]
  by_cases hx : x = .a
  · subst hx
    exact sub8_add8_r s.a b
  · rw [if_neg fun h => hx h.1, if_neg fun h => hx h.1]

/-- Settles O38: a register other than A survives the ADD, so that SUB takes off the byte that was
added. -/
theorem addThenSubRestoresA : Obligations.AddThenSubRestoresA := by
  intro s r hr
  have hoperand : (s.alu .add (s.readR8 r)).readR8 r = s.readR8 r := by
    rw [State.readR8_alu, if_neg fun h => hr h.1]
  have hkept := s.regsKept_alu_add_sub (s.readR8 r)
  refine ⟨_, _, exec_aluReg .add r s, exec_aluReg .sub r _, ?_⟩
  rw [hoperand]
  exact ⟨hkept .a, hkept⟩

/-! ### AND, XOR and OR -/

/-- Settles O35: the result of each is written to A, and its flags are those of `and8`, `xor8` and
`or8` as they stand. -/
theorem andXorOr : Obligations.AndXorOr :=
  ⟨aluForms_of_alu fun s b => s.regAndFlags_writeR8 .a (and8 s.a b),
    aluForms_of_alu fun s b => s.regAndFlags_writeR8 .a (xor8 s.a b),
    aluForms_of_alu fun s b => s.regAndFlags_writeR8 .a (or8 s.a b)⟩

/-! ### INC and DEC (R157 to R160) -/

theorem decodes_incReg (r : R8) :
    Claims.Decodes [Claims.xyz 0#2 (Claims.r8Code r) 4#3] (Instr.incReg r) := by
  intro rest
  cases r <;> rfl

theorem decodes_decReg (r : R8) :
    Claims.Decodes [Claims.xyz 0#2 (Claims.r8Code r) 5#3] (Instr.decReg r) := by
  intro rest
  cases r <;> rfl

theorem exec_incReg (r : R8) (s : State) :
    exec (Instr.incReg r) s = .next (s.incOperand (.reg r)) := by
  cases r <;> rfl

theorem exec_decReg (r : R8) (s : State) :
    exec (Instr.decReg r) s = .next (s.decOperand (.reg r)) := by
  cases r <;> rfl

/-- Settles O37: `inc8` and `dec8` of the operand, written back where it was read. -/
theorem incDecOperand : Obligations.IncDecOperand := by
  refine ⟨fun r => ⟨decodes_incReg r, decodes_decReg r, fun s => ?reg⟩,
    Laws.RoundTrip.incMemHl rfl, Laws.RoundTrip.decMemHl rfl, fun s => ?mem⟩
  case reg =>
    rw [← inc8_h _ s.flagC, ← dec8_h _ s.flagC]
    exact ⟨⟨_, exec_incReg r s, s.regAndFlags_writeR8 r (inc8 (s.readR8 r) s.flagC)⟩,
      ⟨_, exec_decReg r s, s.regAndFlags_writeR8 r (dec8 (s.readR8 r) s.flagC)⟩⟩
  case mem =>
    rw [← inc8_h _ s.flagC, ← dec8_h _ s.flagC]
    exact ⟨⟨_, rfl, s.byteAndFlags_writeByte s.hl (inc8 (s.readByte s.hl) s.flagC)⟩,
      ⟨_, rfl, s.byteAndFlags_writeByte s.hl (dec8 (s.readByte s.hl) s.flagC)⟩⟩

end Sys2Proof.Machine
end

section
/-! 16-bit arithmetic (42_alu16.md): O39 and O40. INC and DEC end in a write of their pair, ADD in a
write of HL and then of the flags; what each ending keeps is said once. -/

namespace Sys2Proof.Machine

/-! ### INC and DEC (R170, R171) -/

theorem decodes_incPair (p : Rp) :
    Claims.Decodes [Claims.xpqz 0#2 (Claims.rpCode p) 0#1 3#3] (Instr.incPair p) := by
  intro rest
  cases p <;> rfl

theorem decodes_decPair (p : Rp) :
    Claims.Decodes [Claims.xpqz 0#2 (Claims.rpCode p) 1#1 3#3] (Instr.decPair p) := by
  intro rest
  cases p <;> rfl

theorem exec_incPair (p : Rp) (s : State) :
    exec (Instr.incPair p) s = .next (s.writeRp p (s.readRp p + 1#16)) := by
  cases p <;> rfl

theorem exec_decPair (p : Rp) (s : State) :
    exec (Instr.decPair p) s = .next (s.writeRp p (s.readRp p - 1#16)) := by
  cases p <;> rfl

theorem State.pairSet_writeRp (s : State) (p : Rp) (v : Word) :
    Claims.PairSet s (s.writeRp p v) p v :=
  ⟨fun q => s.readRp_writeRp p q v, s.writeRp_a p v⟩

theorem State.statusKept_writeRp (s : State) (p : Rp) (v : Word) :
    Claims.StatusKept s (s.writeRp p v) :=
  ⟨s.writeRp_ime p v, s.writeRp_halted p v, s.writeRp_stopped p v, s.writeRp_fatal p v⟩

/-- An instruction that ends in a write of pair `p` sets `p` and nothing else. -/
theorem setsPairOnly_of_exec_eq_writeRp {i : Instr} {s : State} {p : Rp} {v : Word}
    (h : exec i s = .next (s.writeRp p v)) :
    ∃ t, exec i s = .next t ∧ Claims.PairSet s t p v ∧ t.f = s.f ∧ t.pc = s.pc ∧
      Claims.StatusKept s t ∧ Claims.MemKept s t :=
  ⟨_, h, s.pairSet_writeRp p v, s.writeRp_f p v, s.writeRp_pc p v, s.statusKept_writeRp p v,
    s.readByte_writeRp p v⟩

/-- Settles O39: both forms end in a write of their pair. -/
theorem incDecPair : Obligations.IncDecPair := by
  refine fun p => ⟨decodes_incPair p, decodes_decPair p, fun s x hx => ?_⟩
  simp only [List.mem_cons, List.not_mem_nil, or_false] at hx
  obtain rfl | rfl := hx
  · exact setsPairOnly_of_exec_eq_writeRp (exec_incPair p s)
  · exact setsPairOnly_of_exec_eq_writeRp (exec_decPair p s)

/-! ### ADD HL,r16 (R172) -/

theorem decodes_addHl (p : Rp) :
    Claims.Decodes [Claims.xpqz 0#2 (Claims.rpCode p) 1#1 1#3] (Instr.addHl p) := by
  intro rest
  cases p <;> rfl

theorem exec_addHl (p : Rp) (s : State) :
    exec (Instr.addHl p) s = .next (s.addToHl (s.readRp p)) := by
  cases p <;> rfl

/-- No pair has F for a half. -/
@[simp] theorem State.readRp_setFlags (s : State) (z n h c : Bool) (q : Rp) :
    (s.setFlags z n h c).readRp q = s.readRp q := by
  cases q <;> rfl

/-- Writing the flags does not look at the byte of the result they go with. -/
theorem State.flagsAre_setFlags {s u : State} (hf : u.f = s.f) (z n h c : Bool) :
    Claims.FlagsAre s (u.setFlags z n h c) z n h c :=
  State.flagsAre_setFlagsOf hf ⟨0#8, z, n, h, c⟩

theorem State.pairSet_addToHl (s : State) (operand : Word) :
    Claims.PairSet s (s.addToHl operand) .hl (s.hl + operand) := by
  refine ⟨fun q => ?_, rfl⟩
  rw [State.addToHl, State.readRp_setFlags, State.readRp_setHl, add16_r]

theorem State.controlKept_addToHl (s : State) (operand : Word) :
    Claims.ControlKept s (s.addToHl operand) :=
  ⟨rfl, rfl, rfl, rfl, rfl, rfl⟩

/-- Settles O40: the half-carry and carry of `add16` are the two comparisons of the statement as they
stand. -/
theorem addHlPair : Obligations.AddHlPair :=
  fun p => ⟨decodes_addHl p, fun s => ⟨_, exec_addHl p s, s.pairSet_addToHl (s.readRp p),
    State.flagsAre_setFlags (s.setHl_f _) _ _ _ _, s.controlKept_addToHl (s.readRp p),
    fun _ => rfl⟩⟩

end Sys2Proof.Machine
end

section
/-! Rotates, shifts and SWAP (43_rotate_shift.md): O41 to O43. The model writes the table of R184 with
shifts and masks, the statements with rotations and numbers; that the two are one function is said once
for the result and once for the carry out. An obligation is then the instruction's equation for `exec`
and the ending of a result with its flags. -/

namespace Sys2Proof.Machine

/-! ### A single bit of a byte -/

theorem getElem_bitAt (b : Bool) (k i : Nat) (hi : i < 8) :
    (bitAt b k)[i] = (b && decide (i = k)) := by
  cases b
  · simp [bitAt]
  · by_cases h : i < k
    · simp [bitAt, h, Nat.ne_of_lt h]
    · have hk : i - k = 0 ↔ i = k := by omega
      simp [bitAt, h, hk]

theorem toNat_bitAt (b : Bool) (k : Nat) : (bitAt b k).toNat = b.toNat * 2 ^ k % 256 := by
  cases b <;> simp [bitAt, Nat.shiftLeft_eq]

/-- The bit that RLC moves from the top to the bottom. -/
theorem bitAt_getLsbD_seven (v : Byte) : bitAt (v.getLsbD 7) 0 = v >>> 7 := by
  ext i hi
  rw [getElem_bitAt, BitVec.getElem_ushiftRight]
  by_cases h : i = 0
  · simp [h]
  · simp [h, BitVec.getLsbD_of_ge v (7 + i) (by omega)]

/-- The bit that RRC moves from the bottom to the top. -/
theorem bitAt_getLsbD_zero (v : Byte) : bitAt (v.getLsbD 0) 7 = v <<< 7 := by
  ext i hi
  rw [getElem_bitAt, BitVec.getElem_shiftLeft]
  by_cases h : i = 7
  · simp [h]
  · have hlt : i < 7 := by omega
    simp [h, hlt]

/-- The bit that SRA keeps. -/
theorem and_0x80_eq_bitAt (v : Byte) : v &&& 0x80#8 = bitAt v.msb 7 := by
  ext i hi
  rw [show 0x80#8 = bitAt true 7 from rfl, BitVec.getElem_and, getElem_bitAt, getElem_bitAt]
  by_cases h : i = 7
  · simp [h, BitVec.msb_eq_getLsbD_last]
  · simp [h]

/-! ### The shift functions of R184 -/

/-- A shift left that takes `cin` in at bit 0 (RL, SLA). -/
theorem shiftLeft_or_bitAt_zero (v : Byte) (cin : Bool) :
    v <<< 1 ||| bitAt cin 0 = BitVec.ofNat 8 (2 * v.toNat + cin.toNat) := by
  have hdisjoint : v <<< 1 &&& bitAt cin 0 = 0#8 := by
    ext i hi
    by_cases h : i = 0 <;> simp [getElem_bitAt, h]
  rw [← BitVec.add_eq_or_of_and_eq_zero _ _ hdisjoint]
  apply BitVec.eq_of_toNat_eq
  rw [BitVec.toNat_add, BitVec.toNat_shiftLeft, Nat.shiftLeft_eq, toNat_bitAt, BitVec.toNat_ofNat]
  omega

/-- A shift right that takes `cin` in at bit 7 (RR, SRL). -/
theorem shiftRight_or_bitAt_seven (v : Byte) (cin : Bool) :
    v >>> 1 ||| bitAt cin 7 = BitVec.ofNat 8 (v.toNat / 2 + 128 * cin.toNat) := by
  have hdisjoint : v >>> 1 &&& bitAt cin 7 = 0#8 := by
    ext i hi
    by_cases h : i = 7 <;> simp [getElem_bitAt, h]
  rw [← BitVec.add_eq_or_of_and_eq_zero _ _ hdisjoint]
  apply BitVec.eq_of_toNat_eq
  rw [BitVec.toNat_add, BitVec.toNat_ushiftRight, Nat.shiftRight_eq_div_pow, toNat_bitAt,
    BitVec.toNat_ofNat]
  omega

/-- A shift right that keeps bit 7 (SRA). -/
theorem shiftRight_or_bitAt_msb (v : Byte) : v >>> 1 ||| bitAt v.msb 7 = v.sshiftRight 1 := by
  ext i hi
  rw [BitVec.getElem_or, BitVec.getElem_ushiftRight, getElem_bitAt, BitVec.getElem_sshiftRight]
  by_cases h : i = 7
  · simp [h]
  · have hlt : 1 + i < 8 := by omega
    simp [h, hlt]

/-- SWAP's mask takes off only what its shift drops. -/
theorem and_0x0F_shiftLeft_four (v : Byte) : (v &&& 0x0F#8) <<< 4 = v <<< 4 := by
  have hand : (v &&& 0x0F#8).toNat = v.toNat % 16 := Nat.and_two_pow_sub_one_eq_mod v.toNat 4
  apply BitVec.eq_of_toNat_eq
  rw [BitVec.toNat_shiftLeft, BitVec.toNat_shiftLeft, hand, Nat.shiftLeft_eq, Nat.shiftLeft_eq]
  omega

theorem rotate_fst (op : RotOp) (v : Byte) (cin : Bool) :
    (rotate op v cin).1 = Claims.rotated op v cin := by
  cases op with
  | rlc =>
    show v <<< 1 ||| bitAt (v.getLsbD 7) 0 = v.rotateLeft 1
    rw [bitAt_getLsbD_seven, BitVec.rotateLeft_def]
  | rrc =>
    show v >>> 1 ||| bitAt (v.getLsbD 0) 7 = v.rotateRight 1
    rw [bitAt_getLsbD_zero, BitVec.rotateRight_def]
  | rl => exact shiftLeft_or_bitAt_zero v cin
  | rr => exact shiftRight_or_bitAt_seven v cin
  | sla => exact BitVec.or_zero.symm.trans (shiftLeft_or_bitAt_zero v false)
  | sra =>
    show v >>> 1 ||| (v &&& 0x80#8) = v.sshiftRight 1
    rw [and_0x80_eq_bitAt, shiftRight_or_bitAt_msb]
  | swap =>
    show (v &&& 0x0F#8) <<< 4 ||| v >>> 4 = v.rotateLeft 4
    rw [and_0x0F_shiftLeft_four, BitVec.rotateLeft_def]
  | srl => exact BitVec.or_zero.symm.trans (shiftRight_or_bitAt_seven v false)

theorem rotate_snd (op : RotOp) (v : Byte) (cin : Bool) :
    (rotate op v cin).2 = Claims.rotateCarry op v := by
  have hleft : v.getLsbD 7 = v.msb := v.msb_eq_getLsbD_last.symm
  have hright : v.getLsbD 0 = decide (v.toNat % 2 = 1) := Nat.testBit_zero v.toNat
  cases op with
  | rlc | rl | sla => exact hleft
  | rrc | rr | sra | srl => exact hright
  | swap => rfl

/-! ### The state after a rotate -/

/-- The result of a row of R184 with the flags of its 0xCB form. -/
def rotateOut (op : RotOp) (v : Byte) (cin : Bool) : AluOut where
  r := Claims.rotated op v cin
  z := decide (Claims.rotated op v cin = 0#8)
  n := false
  h := false
  c := Claims.rotateCarry op v

theorem State.rotateOperand_eq (s : State) (op : RotOp) (o : Operand8) :
    s.rotateOperand op o =
      (s.writeOperand o (rotateOut op (s.readOperand o) s.flagC).r).setFlagsOf
        (rotateOut op (s.readOperand o) s.flagC) := by
  rw [State.rotateOperand, rotate_fst, rotate_snd]
  rfl

/-- The accumulator forms clear Z, which the 0xCB forms compute. -/
theorem State.rotateA_eq (s : State) (op : RotOp) :
    s.rotateA op = (s.writeR8 .a (rotateOut op s.a s.flagC).r).setFlagsOf
      { rotateOut op s.a s.flagC with z := false } := by
  rw [State.rotateA, rotate_fst, rotate_snd]
  rfl

theorem rotatesAccumulator_of_exec_eq {i : Instr} {op : RotOp} {s : State}
    (h : exec i s = .next (s.rotateA op)) :
    ∃ t, exec i s = .next t ∧ Claims.RegSet s t .a (Claims.rotated op s.a s.flagC) ∧
      Claims.FlagsAre s t false false false (Claims.rotateCarry op s.a) ∧
      Claims.ControlKept s t ∧ Claims.MemKept s t := by
  rw [State.rotateA_eq] at h
  exact ⟨_, h, s.regAndFlags_writeR8 .a { rotateOut op s.a s.flagC with z := false }⟩

/-! ### The 0xCB forms (R185 to R200) -/

theorem decodes_rotReg (op : RotOp) (r : R8) :
    Claims.Decodes [0xCB#8, Claims.xyz 0#2 (Claims.rotCode op) (Claims.r8Code r)]
      (Instr.rotReg op r) := by
  intro rest
  cases op <;> cases r <;> rfl

theorem decodes_rotMem (op : RotOp) :
    Claims.Decodes [0xCB#8, Claims.xyz 0#2 (Claims.rotCode op) 6#3] (Instr.rotMem op) := by
  intro rest
  cases op <;> rfl

theorem exec_rotReg (op : RotOp) (r : R8) (s : State) :
    exec (Instr.rotReg op r) s = .next (s.rotateOperand op (.reg r)) := by
  cases op <;> cases r <;> rfl

theorem exec_rotMem (op : RotOp) (s : State) :
    exec (Instr.rotMem op) s = .next (s.rotateOperand op .memHl) := by
  cases op <;> rfl

/-! ### The obligations -/

/-- Settles O41: each form is `State.rotateA`, a write of A and then the carry out as the only flag
that can be set. -/
theorem accumulatorRotates : Obligations.AccumulatorRotates := by
  intro p hp
  simp only [List.mem_cons, List.not_mem_nil, or_false] at hp
  obtain rfl | rfl | rfl | rfl := hp
  · exact ⟨Laws.RoundTrip.rlca rfl, fun _ => rotatesAccumulator_of_exec_eq rfl⟩
  · exact ⟨Laws.RoundTrip.rrca rfl, fun _ => rotatesAccumulator_of_exec_eq rfl⟩
  · exact ⟨Laws.RoundTrip.rla rfl, fun _ => rotatesAccumulator_of_exec_eq rfl⟩
  · exact ⟨Laws.RoundTrip.rra rfl, fun _ => rotatesAccumulator_of_exec_eq rfl⟩

/-- Settles O42: `rotateOut` of the register, written back to it. -/
theorem rotateRegister : Obligations.RotateRegister := by
  refine fun op r => ⟨decodes_rotReg op r, fun s => ?_⟩
  rw [exec_rotReg, State.rotateOperand_eq]
  exact ⟨_, rfl, s.regAndFlags_writeR8 r (rotateOut op (s.readR8 r) s.flagC)⟩

/-- Settles O43: `rotateOut` of the byte read at HL, stored where it was read; its flags do not depend
on whether the store is discarded. -/
theorem rotateMemory : Obligations.RotateMemory := by
  refine fun op => ⟨decodes_rotMem op, fun s => ?_⟩
  rw [exec_rotMem, State.rotateOperand_eq]
  exact ⟨_, rfl, s.byteAndFlags_writeByte s.hl (rotateOut op (s.readByte s.hl) s.flagC)⟩

end Sys2Proof.Machine
end

section
/-! Bit test, reset and set (44_bit.md): O44 and O45. BIT ends in a write of the flags, RES and SET in
a write of the operand; the statements speak of a bit by division or by its place, the model by shift
and mask, and that the two agree is said once for each of the three operations. -/

namespace Sys2Proof.Machine

/-! ### BIT (R210, R211) -/

theorem decodes_bitReg (b : Fin 8) (r : R8) :
    Claims.Decodes [0xCB#8, Claims.xyz 1#2 (BitVec.ofFin b) (Claims.r8Code r)]
      (Instr.bitReg b r) := by
  intro rest
  fin_cases b <;> cases r <;> rfl

theorem decodes_bitMem (b : Fin 8) :
    Claims.Decodes [0xCB#8, Claims.xyz 1#2 (BitVec.ofFin b) 6#3] (Instr.bitMem b) := by
  intro rest
  fin_cases b <;> rfl

theorem exec_bitReg (b : Fin 8) (r : R8) (s : State) :
    exec (Instr.bitReg b r) s = .next (s.testBit b (.reg r)) := by
  fin_cases b <;> cases r <;> rfl

theorem exec_bitMem (b : Fin 8) (s : State) :
    exec (Instr.bitMem b) s = .next (s.testBit b .memHl) := by
  fin_cases b <;> rfl

theorem not_getLsbD_eq_decide (v : Byte) (b : Nat) :
    (!v.getLsbD b) = decide (v.toNat / 2 ^ b % 2 = 0) := by
  rw [← BitVec.testBit_toNat, Nat.testBit_eq_decide_div_mod_eq, ← decide_not]
  exact decide_eq_decide.mpr Nat.mod_two_ne_one

/-- BIT writes three flags and nothing else, whatever its operand. -/
theorem State.flagsOnly_testBit (s : State) (b : Nat) (o : Operand8) :
    Claims.FlagsAre s (s.testBit b o) (decide ((s.readOperand o).toNat / 2 ^ b % 2 = 0)) false true
        s.flagC ∧
      Claims.RegsKept s (s.testBit b o) ∧ Claims.ControlKept s (s.testBit b o) ∧
      Claims.MemKept s (s.testBit b o) := by
  rw [← not_getLsbD_eq_decide]
  exact ⟨State.flagsAre_setFlags rfl _ _ _ _, s.readR8_setFlags _ _ _ _,
    ⟨rfl, rfl, rfl, rfl, rfl, rfl⟩, s.readByte_setFlags _ _ _ _⟩

/-- Settles O44: both forms are `State.testBit` of their operand. -/
theorem bitTest : Obligations.BitTest :=
  fun b => ⟨fun r => ⟨decodes_bitReg b r, fun s => ⟨_, exec_bitReg b r s, s.flagsOnly_testBit b _⟩⟩,
    decodes_bitMem b, fun s => ⟨_, exec_bitMem b s, s.flagsOnly_testBit b _⟩⟩

/-! ### RES and SET (R212 to R215) -/

theorem decodes_resReg (b : Fin 8) (r : R8) :
    Claims.Decodes [0xCB#8, Claims.xyz 2#2 (BitVec.ofFin b) (Claims.r8Code r)]
      (Instr.resReg b r) := by
  intro rest
  fin_cases b <;> cases r <;> rfl

theorem decodes_setReg (b : Fin 8) (r : R8) :
    Claims.Decodes [0xCB#8, Claims.xyz 3#2 (BitVec.ofFin b) (Claims.r8Code r)]
      (Instr.setReg b r) := by
  intro rest
  fin_cases b <;> cases r <;> rfl

theorem decodes_resMem (b : Fin 8) :
    Claims.Decodes [0xCB#8, Claims.xyz 2#2 (BitVec.ofFin b) 6#3] (Instr.resMem b) := by
  intro rest
  fin_cases b <;> rfl

theorem decodes_setMem (b : Fin 8) :
    Claims.Decodes [0xCB#8, Claims.xyz 3#2 (BitVec.ofFin b) 6#3] (Instr.setMem b) := by
  intro rest
  fin_cases b <;> rfl

theorem exec_resReg (b : Fin 8) (r : R8) (s : State) :
    exec (Instr.resReg b r) s = .next (s.resBit b (.reg r)) := by
  fin_cases b <;> cases r <;> rfl

theorem exec_setReg (b : Fin 8) (r : R8) (s : State) :
    exec (Instr.setReg b r) s = .next (s.setBit b (.reg r)) := by
  fin_cases b <;> cases r <;> rfl

theorem exec_resMem (b : Fin 8) (s : State) :
    exec (Instr.resMem b) s = .next (s.resBit b .memHl) := by
  fin_cases b <;> rfl

theorem exec_setMem (b : Fin 8) (s : State) :
    exec (Instr.setMem b) s = .next (s.setBit b .memHl) := by
  fin_cases b <;> rfl

/-- The mask of RES and SET has one bit. -/
theorem getLsbD_one_shiftLeft (b j : Nat) (hj : j < 8) :
    (1#8 <<< b).getLsbD j = decide (j = b) := by
  rw [BitVec.getLsbD_eq_getElem hj]
  exact getElem_bitAt true b j hj

theorem bitMade_and_not_one_shiftLeft (b : Nat) (v : Byte) :
    Claims.BitMade b false v (v &&& ~~~(1#8 <<< b)) := by
  intro j hj
  rw [BitVec.getLsbD_and, BitVec.getLsbD_not, getLsbD_one_shiftLeft b j hj]
  by_cases h : j = b <;> simp [h, hj]

theorem bitMade_or_one_shiftLeft (b : Nat) (v : Byte) :
    Claims.BitMade b true v (v ||| 1#8 <<< b) := by
  intro j hj
  rw [BitVec.getLsbD_or, getLsbD_one_shiftLeft b j hj]
  by_cases h : j = b <;> simp [h]

/-- An instruction that ends in a write of `r` with one bit made changes that bit and nothing else. -/
theorem makesBitOfReg_of_exec_eq {i : Instr} {s : State} {r : R8} {b : Nat} {x : Bool} {w : Byte}
    (h : exec i s = .next (s.writeR8 r w)) (hw : Claims.BitMade b x (s.readR8 r) w) :
    ∃ t w, exec i s = .next t ∧ Claims.BitMade b x (s.readR8 r) w ∧ Claims.RegSet s t r w ∧
      t.f = s.f ∧ Claims.ControlKept s t ∧ Claims.MemKept s t := by
  obtain ⟨t, hexec, hset⟩ := setsOnly_of_exec_eq_writeR8 h
  exact ⟨t, w, hexec, hw, hset⟩

/-- An instruction that ends in a store at HL with one bit made changes that bit and nothing else. -/
theorem makesBitAtHl_of_exec_eq {i : Instr} {s : State} {b : Nat} {x : Bool} {w : Byte}
    (h : exec i s = .next (s.writeByte s.hl w)) (hw : Claims.BitMade b x (s.readByte s.hl) w) :
    ∃ t w, exec i s = .next t ∧ Claims.BitMade b x (s.readByte s.hl) w ∧
      Claims.StoresByte s t s.hl w ∧ Claims.RegsKept s t ∧ t.f = s.f ∧ Claims.ControlKept s t := by
  obtain ⟨t, hexec, hstores⟩ := storesOnly_of_exec_eq_writeByte h
  exact ⟨t, w, hexec, hw, hstores⟩

/-- Settles O45: each form writes its operand back with bit `b` made 0 or 1 by its mask. -/
theorem resAndSet : Obligations.ResAndSet := by
  refine fun b => ⟨fun r => ⟨decodes_resReg b r, decodes_setReg b r, fun s p hp => ?reg⟩,
    decodes_resMem b, decodes_setMem b, fun s p hp => ?mem⟩
  case reg =>
    simp only [List.mem_cons, List.not_mem_nil, or_false] at hp
    obtain rfl | rfl := hp
    · exact makesBitOfReg_of_exec_eq (exec_resReg b r s) (bitMade_and_not_one_shiftLeft b _)
    · exact makesBitOfReg_of_exec_eq (exec_setReg b r s) (bitMade_or_one_shiftLeft b _)
  case mem =>
    simp only [List.mem_cons, List.not_mem_nil, or_false] at hp
    obtain rfl | rfl := hp
    · exact makesBitAtHl_of_exec_eq (exec_resMem b s) (bitMade_and_not_one_shiftLeft b _)
    · exact makesBitAtHl_of_exec_eq (exec_setMem b s) (bitMade_or_one_shiftLeft b _)

end Sys2Proof.Machine
end

section
/-! CPL, SCF and CCF (45_bcd_flags.md R221 to R223): O48. CPL ends in a write of A and then the flags,
SCF and CCF in the flags alone. -/

namespace Sys2Proof.Machine

/-- An instruction that ends in a write of the flags changes them and nothing else. -/
theorem setsFlagsOnly_of_exec_eq_setFlags {i : Instr} {s : State} {z n h c : Bool}
    (hexec : exec i s = .next (s.setFlags z n h c)) :
    ∃ t, exec i s = .next t ∧ Claims.RegsKept s t ∧ Claims.FlagsAre s t z n h c ∧
      Claims.ControlKept s t ∧ Claims.MemKept s t :=
  ⟨_, hexec, s.flagsOnly_setFlagsOf ⟨0#8, z, n, h, c⟩⟩

/-- The result and the flags of CPL (R221). -/
def cplOut (s : State) : AluOut where
  r := 0xFF#8 - s.a
  z := s.flagZ
  n := true
  h := true
  c := s.flagC

/-- The model complements A bit by bit, the statement subtracts it from 0xFF. -/
theorem exec_cpl (s : State) :
    exec .cpl s = .next ((s.writeR8 .a (cplOut s).r).setFlagsOf (cplOut s)) := by
  have hcomplement : 0xFF#8 - s.a = ~~~s.a := BitVec.allOnes_sub_eq_not s.a
  rw [cplOut, hcomplement]
  rfl

theorem exec_scf (s : State) : exec .scf s = .next (s.setFlags s.flagZ false false true) := rfl

theorem exec_ccf (s : State) :
    exec .ccf s = .next (s.setFlags s.flagZ false false (!s.flagC)) := rfl

/-- Settles O48: CPL ends in `cplOut` written to A, SCF and CCF in a write of the flags. -/
theorem cplScfCcf : Obligations.CplScfCcf :=
  ⟨Laws.RoundTrip.cpl rfl, Laws.RoundTrip.scf rfl, Laws.RoundTrip.ccf rfl, fun s =>
    ⟨⟨_, exec_cpl s, s.regAndFlags_writeR8 .a (cplOut s)⟩,
      setsFlagsOnly_of_exec_eq_setFlags (exec_scf s),
      setsFlagsOnly_of_exec_eq_setFlags (exec_ccf s)⟩⟩

end Sys2Proof.Machine
end

section
/-! Control transfer (46_control.md R230 to R237, R241): O49 and O50. Each instruction ends in a jump or
a call, taken always or under a condition. What the condition and the call do is said once; a statement
is then each instruction's decoding and its equation for `exec`. -/

namespace Sys2Proof.Machine

/-! ### The condition (R230) -/

/-- The model reads `cond(cc)` from Z and C, the statement from the bits of F. -/
theorem State.transferIf_eq_ite_holds (s : State) (cc : Cond) (taken : State) :
    s.transferIf cc taken = if Claims.holds s cc = true then taken else s := by
  cases cc <;> rfl

/-! ### Jumps (R231 to R235) -/

theorem decodes_jrIf (cc : Cond) (e8 : Byte) :
    Claims.Decodes [Claims.xyz 0#2 (1#1 ++ Claims.ccCode cc) 0#3, e8] (Instr.jrIf cc e8) := by
  intro rest
  cases cc <;> rfl

theorem decodes_jpIf (cc : Cond) (a16 : Word) :
    Claims.Decodes [Claims.xyz 3#2 (0#1 ++ Claims.ccCode cc) 2#3, a16.extractLsb' 0 8,
      a16.extractLsb' 8 8] (Instr.jpIf cc a16) := by
  cases cc with
  | nz => exact Laws.RoundTrip.jpNzA16 a16 rfl
  | z => exact Laws.RoundTrip.jpZA16 a16 rfl
  | nc => exact Laws.RoundTrip.jpNcA16 a16 rfl
  | c => exact Laws.RoundTrip.jpCA16 a16 rfl

/-- The displacement counts as the signed number it encodes (30_encoding.md R65). -/
theorem State.jumpRelative_eq (s : State) (e8 : Byte) :
    s.jumpRelative e8 = { s with pc := BitVec.ofInt 16 (s.pc.toNat + e8.toInt) } := by
  rw [State.jumpRelative, add_displacement]

theorem exec_jrE8 (e8 : Byte) (s : State) :
    exec (.jrE8 e8) s = .next { s with pc := BitVec.ofInt 16 (s.pc.toNat + e8.toInt) } :=
  congrArg Host.Outcome.next (s.jumpRelative_eq e8)

theorem exec_jrIf_eq_transferIf (cc : Cond) (e8 : Byte) (s : State) :
    exec (Instr.jrIf cc e8) s = .next (s.transferIf cc (s.jumpRelative e8)) := by
  cases cc <;> rfl

theorem exec_jpIf_eq_transferIf (cc : Cond) (a16 : Word) (s : State) :
    exec (Instr.jpIf cc a16) s = .next (s.transferIf cc (s.jumpTo a16)) := by
  cases cc <;> rfl

theorem exec_jrIf (cc : Cond) (e8 : Byte) (s : State) :
    exec (Instr.jrIf cc e8) s = .next (if Claims.holds s cc = true
      then { s with pc := BitVec.ofInt 16 (s.pc.toNat + e8.toInt) } else s) := by
  rw [exec_jrIf_eq_transferIf, State.transferIf_eq_ite_holds, State.jumpRelative_eq]

theorem exec_jpIf (cc : Cond) (a16 : Word) (s : State) :
    exec (Instr.jpIf cc a16) s =
      .next (if Claims.holds s cc = true then { s with pc := a16 } else s) := by
  rw [exec_jpIf_eq_transferIf, State.transferIf_eq_ite_holds, State.jumpTo]

/-- Settles O49: JP and JP HL are `State.jumpTo` as it stands, the other forms have their equations
above. -/
theorem jumps : Obligations.Jumps :=
  fun e8 a16 => ⟨Laws.RoundTrip.jrE8 e8 rfl, Laws.RoundTrip.jpA16 a16 rfl, Laws.RoundTrip.jpHl rfl,
    fun s => ⟨exec_jrE8 e8 s, rfl, rfl⟩,
    fun cc => ⟨decodes_jrIf cc e8, decodes_jpIf cc a16,
      fun s => ⟨exec_jrIf cc e8 s, exec_jpIf cc a16 s⟩⟩⟩

/-! ### Calls (R236, R237, R241) -/

/-- A word write stores the word, low byte first (20_memory.md R41). -/
theorem State.storesWord_writeWord (s : State) (addr v : Word) :
    Claims.StoresWord s (s.writeWord addr v) addr v :=
  fun hm => State.readByte_writeWord hm addr v

/-- A call pushes PC below SP, jumps, and changes nothing else. -/
theorem State.calls_callTo (s : State) (target : Word) : Claims.Calls s (s.callTo target) target := by
  refine ⟨rfl, s.callTo_sp target, fun hm a => ?stores, s.readR8_callTo target, s.push16_f s.pc,
    s.push16_ime s.pc, s.push16_halted s.pc, s.push16_stopped s.pc, s.push16_fatal s.pc⟩
  case stores =>
    rw [State.readByte_callTo]
    exact s.storesWord_writeWord _ _ hm a

theorem decodes_callIf (cc : Cond) (a16 : Word) :
    Claims.Decodes [Claims.xyz 3#2 (0#1 ++ Claims.ccCode cc) 4#3, a16.extractLsb' 0 8,
      a16.extractLsb' 8 8] (Instr.callIf cc a16) := by
  cases cc with
  | nz => exact Laws.RoundTrip.callNzA16 a16 rfl
  | z => exact Laws.RoundTrip.callZA16 a16 rfl
  | nc => exact Laws.RoundTrip.callNcA16 a16 rfl
  | c => exact Laws.RoundTrip.callCA16 a16 rfl

theorem decodes_rst (y : Fin 8) :
    Claims.Decodes [Claims.xyz 3#2 (BitVec.ofFin y) 7#3] (Instr.rst y) := by
  intro rest
  fin_cases y <;> rfl

theorem exec_callA16 (a16 : Word) (s : State) : exec (.callA16 a16) s = .next (s.callTo a16) := rfl

theorem exec_callIf (cc : Cond) (a16 : Word) (s : State) :
    exec (Instr.callIf cc a16) s = .next (s.transferIf cc (s.callTo a16)) := by
  cases cc <;> rfl

theorem exec_rst (y : Fin 8) (s : State) :
    exec (Instr.rst y) s = .next (s.callTo (BitVec.ofNat 16 (8 * y.val))) := by
  fin_cases y <;> rfl

/-- A conditional call is the call if the condition holds, and else leaves the state as it was. -/
theorem State.calls_transferIf_callTo (s : State) (cc : Cond) (target : Word) :
    if Claims.holds s cc = true then Claims.Calls s (s.transferIf cc (s.callTo target)) target
    else s.transferIf cc (s.callTo target) = s := by
  rw [State.transferIf_eq_ite_holds]
  by_cases h : Claims.holds s cc = true
  · rw [if_pos h, if_pos h]
    exact s.calls_callTo target
  · rw [if_neg h, if_neg h]

/-- Settles O50: CALL and RST are `State.callTo` of their target, CALL cc is it under the condition. -/
theorem calls : Obligations.Calls :=
  ⟨fun a16 => ⟨Laws.RoundTrip.callA16 a16 rfl,
      fun s => ⟨_, exec_callA16 a16 s, s.calls_callTo a16⟩,
      fun cc => ⟨decodes_callIf cc a16,
        fun s => ⟨_, exec_callIf cc a16 s, s.calls_transferIf_callTo cc a16⟩⟩⟩,
    fun y => ⟨decodes_rst y, fun s => ⟨_, exec_rst y s, s.calls_callTo _⟩⟩⟩

end Sys2Proof.Machine
end

section
/-! Stack and 16-bit loads (47_stack_sp.md): O52, O53 and O55. PUSH ends in `State.push16`, POP in
`State.popInto` or `State.popAf`, the loads in a write of a pair or of a word of memory. -/

namespace Sys2Proof.Machine

/-! ### PUSH (R250) -/

theorem decodes_push (p : Rp2) :
    Claims.Decodes [Claims.xpqz 3#2 (Claims.rp2Code p) 0#1 5#3] (Instr.push p) := by
  intro rest
  cases p <;> rfl

theorem exec_push (p : Rp2) (s : State) :
    exec (Instr.push p) s = .next (s.push16 (s.readRp2 p)) := by
  cases p <;> rfl

/-- The word goes to the two bytes below the old SP (20_memory.md R45). -/
theorem State.storesWord_push16 (s : State) (v : Word) :
    Claims.StoresWord s (s.push16 v) (s.sp - 2#16) v :=
  fun hm a => (s.readByte_push16 v a).trans (s.storesWord_writeWord _ v hm a)

theorem State.statusKept_push16 (s : State) (v : Word) : Claims.StatusKept s (s.push16 v) :=
  ⟨s.push16_ime v, s.push16_halted v, s.push16_stopped v, s.push16_fatal v⟩

/-- Settles O52: PUSH is `State.push16` of its pair. -/
theorem pushPair : Obligations.PushPair :=
  fun p => ⟨decodes_push p, fun s => ⟨_, exec_push p s, s.sp_push16 _, s.storesWord_push16 _,
    fun x => s.readR8_push16 _ x, s.push16_f _, s.push16_pc _, s.statusKept_push16 _⟩⟩

/-! ### POP (R251, R252) -/

theorem decodes_pop (p : Rp2) :
    Claims.Decodes [Claims.xpqz 3#2 (Claims.rp2Code p) 0#1 1#3] (Instr.pop p) := by
  intro rest
  cases p <;> rfl

/-- AF is left out: its pop masks the word. -/
theorem exec_pop {p : Rp2} (hp : p ≠ .af) (s : State) :
    exec (Instr.pop p) s = .next (s.popInto p) := by
  cases p with
  | af => exact absurd rfl hp
  | bc | de | hl => rfl

@[simp] theorem State.popInto_pc (s : State) (p : Rp2) : (s.popInto p).pc = s.pc := by
  cases p <;> rfl

theorem State.statusKept_popInto (s : State) (p : Rp2) : Claims.StatusKept s (s.popInto p) := by
  cases p <;> exact ⟨rfl, rfl, rfl, rfl⟩

theorem exec_popAf (s : State) : exec .popAf s = .next s.popAf := rfl

theorem highByte_and (v w : Word) : highByte (v &&& w) = highByte v &&& highByte w :=
  BitVec.extractLsb'_and

theorem lowByte_and (v w : Word) : lowByte (v &&& w) = lowByte v &&& lowByte w :=
  BitVec.extractLsb'_and

/-- Masking with 0xF0 drops the low nibble, as a number. -/
theorem and_0xF0_eq (v : Byte) : v &&& 0xF0#8 = BitVec.ofNat 8 (v.toNat / 16 * 16) := by
  revert v
  decide

/-- The mask 0xFFF0 keeps the whole high byte. -/
theorem State.popAf_a (s : State) : s.popAf.a = s.readByte (s.sp + 1#16) := by
  have hmask : s.popAf.a = highByte (s.readWord s.sp) &&& 0xFF#8 := highByte_and _ _
  rw [hmask, State.readWord, highByte_word]
  exact BitVec.and_allOnes

theorem State.popAf_f (s : State) :
    s.popAf.f = BitVec.ofNat 8 ((s.readByte s.sp).toNat / 16 * 16) := by
  have hmask : s.popAf.f = lowByte (s.readWord s.sp) &&& 0xF0#8 := lowByte_and _ _
  rw [hmask, State.readWord, lowByte_word, and_0xF0_eq]

theorem State.readRp2_popAf_of_ne (s : State) {q : Rp2} (hq : q ≠ .af) :
    s.popAf.readRp2 q = s.readRp2 q := by
  cases q with
  | af => exact absurd rfl hq
  | bc | de | hl => rfl

theorem State.statusKept_popAf (s : State) : Claims.StatusKept s s.popAf := ⟨rfl, rfl, rfl, rfl⟩

/-- Settles O53: BC, DE and HL take the word as `State.popInto` reads it, AF its two bytes with the low
nibble of F dropped. -/
theorem popPair : Obligations.PopPair :=
  ⟨decodes_pop,
    fun p hp s => ⟨_, exec_pop hp s, s.readRp2_popInto p, s.popInto_sp p, s.popInto_pc p,
      s.statusKept_popInto p, State.readByte_congr (s.popInto_mem p)⟩,
    fun s => ⟨_, exec_popAf s, fun _ hq => s.readRp2_popAf_of_ne hq, s.popAf_a, s.popAf_f, rfl, rfl,
      s.statusKept_popAf, fun _ => rfl⟩⟩

/-! ### 16-bit loads (R253 to R255) -/

theorem decodes_ldPairN16 (p : Rp) (n16 : Word) :
    Claims.Decodes [Claims.xpqz 0#2 (Claims.rpCode p) 0#1 1#3, n16.extractLsb' 0 8,
      n16.extractLsb' 8 8] (Instr.ldPairN16 p n16) := by
  cases p with
  | bc => exact Laws.RoundTrip.ldBcN16 n16 rfl
  | de => exact Laws.RoundTrip.ldDeN16 n16 rfl
  | hl => exact Laws.RoundTrip.ldHlN16 n16 rfl
  | sp => exact Laws.RoundTrip.ldSpN16 n16 rfl

theorem exec_ldPairN16 (p : Rp) (n16 : Word) (s : State) :
    exec (Instr.ldPairN16 p n16) s = .next (s.writeRp p n16) := by
  cases p <;> rfl

theorem exec_ldMemA16Sp (a16 : Word) (s : State) :
    exec (.ldMemA16Sp a16) s = .next (s.writeWord a16 s.sp) := rfl

theorem exec_ldSpHl (s : State) : exec .ldSpHl s = .next { s with sp := s.hl } := rfl

theorem State.controlKept_writeWord (s : State) (addr v : Word) :
    Claims.ControlKept s (s.writeWord addr v) :=
  ⟨s.writeWord_sp addr v, s.writeWord_pc addr v, s.writeWord_ime addr v, s.writeWord_halted addr v,
    s.writeWord_stopped addr v, s.writeWord_fatal addr v⟩

/-- Settles O55: the immediate loads end in a write of their pair, LD (a16),SP in a word write of SP,
LD SP,HL in a write of SP. -/
theorem wideLoads : Obligations.WideLoads :=
  ⟨fun p n16 => ⟨decodes_ldPairN16 p n16,
      fun s => setsPairOnly_of_exec_eq_writeRp (exec_ldPairN16 p n16 s)⟩,
    fun a16 => ⟨Laws.RoundTrip.ldMemA16Sp a16 rfl,
      fun s => ⟨_, exec_ldMemA16Sp a16 s, s.storesWord_writeWord a16 s.sp,
        fun x => s.readR8_writeWord a16 s.sp x, s.writeWord_f a16 s.sp,
        s.controlKept_writeWord a16 s.sp⟩⟩,
    Laws.RoundTrip.ldSpHl rfl, exec_ldSpHl⟩

end Sys2Proof.Machine
end

section
/-! The decoder against the encoder (30_encoding.md sections 2 to 5): O1 to O4. What `decode` reads
is said once in each direction, by the first byte; the two opcode maps meet the encoder byte by
byte. -/

namespace Sys2Proof.Laws

/-! ### What the decoder reads, by the first byte (R62, R72) -/

theorem decode_cb (op2 : Byte) (rest : List Byte) :
    decode (0xCB#8 :: op2 :: rest) = .ok (decodeCb op2, rest) := rfl

section
variable {op : Byte} (hcb : op ≠ 0xCB#8)
include hcb

theorem decode_of_length_one (hlen : primaryLength op = 1) (rest : List Byte) :
    decode (op :: rest) = .ok (decodePrimary op 0#8 0#8, rest) := by
  simp [decode, hcb, hlen]

theorem decode_of_length_two (hlen : primaryLength op = 2) (b1 : Byte) (rest : List Byte) :
    decode (op :: b1 :: rest) = .ok (decodePrimary op b1 0#8, rest) := by
  simp [decode, hcb, hlen]

theorem decode_of_length_three (hlen : primaryLength op = 3) (b1 b2 : Byte) (rest : List Byte) :
    decode (op :: b1 :: b2 :: rest) = .ok (decodePrimary op b1 b2, rest) := by
  simp [decode, hcb, hlen]

end

theorem primaryLength_eq_one_or_two_or_three (op : Byte) :
    primaryLength op = 1 ∨ primaryLength op = 2 ∨ primaryLength op = 3 := by
  revert op
  decide

/-- The bytes that the opcode `op` and the operand bytes `b1` and `b2` make up, as many as R72 gives
`op`. -/
def primaryBytes (op b1 b2 : Byte) : List Byte :=
  match primaryLength op with
  | 2 => [op, b1]
  | 3 => [op, b1, b2]
  | _ => [op]

/-- Everything that can decode: 0xCB alone, 0xCB with its second byte, or another opcode with its
operand bytes. -/
theorem decode_eq_ok_cases {bytes rest : List Byte} {i : Instr} (h : decode bytes = .ok (i, rest)) :
    (bytes = [0xCB#8] ∧ i = .prefixCb ∧ rest = []) ∨
    (∃ op2, bytes = 0xCB#8 :: op2 :: rest ∧ i = decodeCb op2) ∨
    (∃ op b1 b2, op ≠ 0xCB#8 ∧ bytes = primaryBytes op b1 b2 ++ rest ∧
      i = decodePrimary op b1 b2) := by
  match bytes with
  | [] => cases h
  | op :: tail =>
    by_cases hcb : op = 0xCB#8
    · subst hcb
      match tail with
      | [] => cases h; exact .inl ⟨rfl, rfl, rfl⟩
      | op2 :: tail => cases h; exact .inr (.inl ⟨op2, rfl, rfl⟩)
    · refine .inr (.inr ?_)
      obtain hlen | hlen | hlen := primaryLength_eq_one_or_two_or_three op
      · rw [decode_of_length_one hcb hlen] at h
        cases h
        exact ⟨op, 0#8, 0#8, hcb, by simp [primaryBytes, hlen], rfl⟩
      · match tail with
        | [] => simp [decode, hcb, hlen] at h
        | b1 :: tail =>
          rw [decode_of_length_two hcb hlen] at h
          cases h
          exact ⟨op, b1, 0#8, hcb, by simp [primaryBytes, hlen], rfl⟩
      · match tail with
        | [] | [b1] => simp [decode, hcb, hlen] at h
        | b1 :: b2 :: tail =>
          rw [decode_of_length_three hcb hlen] at h
          cases h
          exact ⟨op, b1, b2, hcb, by simp [primaryBytes, hlen], rfl⟩

/-! ### The opcode maps against the encoder -/

theorem exists_eq_ofNat (v : Byte) : ∃ k < 256, v = BitVec.ofNat 8 k :=
  ⟨v.toNat, v.isLt, by simp⟩

/-- The 0xCB map, entry by entry (R77). -/
theorem encode_decodeCb (op2 : Byte) : encode (decodeCb op2) = [0xCB#8, op2] := by
  obtain ⟨k, hk, rfl⟩ := exists_eq_ofNat op2
  interval_cases k <;> rfl

/-- The primary map, entry by entry (R73 to R76), with a word operand as the encoder splits it. -/
theorem encode_decodePrimary_eq_split (op b1 b2 : Byte) :
    encode (decodePrimary op b1 b2) =
      if primaryLength op = 3
      then [op, (immediate b2 b1).extractLsb' 0 8, (immediate b2 b1).extractLsb' 8 8]
      else primaryBytes op b1 b2 := by
  obtain ⟨k, hk, rfl⟩ := exists_eq_ofNat op
  interval_cases k <;> rfl

theorem encode_decodePrimary (op b1 b2 : Byte) :
    encode (decodePrimary op b1 b2) = primaryBytes op b1 b2 := by
  rw [encode_decodePrimary_eq_split, immediate_low, immediate_high]
  split
  next hlen => simp [primaryBytes, hlen]
  next => rfl

/-- As many operand bytes as R72 gives `op` make up an instruction with it. -/
theorem exists_decodes_of_length {op : Byte} (hcb : op ≠ 0xCB#8) {operands : List Byte}
    (hn : operands.length + 1 = primaryLength op) :
    ∃ i : Instr, encode i = op :: operands ∧ Claims.Decodes (op :: operands) i := by
  have hencode := encode_decodePrimary op
  obtain hlen | hlen | hlen := primaryLength_eq_one_or_two_or_three op
  all_goals
    rw [hlen] at hn
    simp only [primaryBytes, hlen] at hencode
  · match operands, hn with
    | [], _ => exact ⟨_, hencode 0#8 0#8, decode_of_length_one hcb hlen⟩
  · match operands, hn with
    | [b1], _ => exact ⟨_, hencode b1 0#8, decode_of_length_two hcb hlen b1⟩
  · match operands, hn with
    | [b1, b2], _ => exact ⟨_, hencode b1 b2, decode_of_length_three hcb hlen b1 b2⟩

/-! ### The obligations -/

/-- Settles O1: each word decodes by computation. -/
theorem specWordsDecode : Obligations.SpecWordsDecode :=
  ⟨rfl, rfl, rfl, rfl, rfl, rfl⟩

/-- Settles O2: an operand byte comes back as it was written, and `RoundTrip` says of each
instruction with a word operand that its two bytes are joined again. -/
theorem decodeOfEncodeGivesInstruction : Obligations.DecodeOfEncodeGivesInstruction := by
  intro i
  cases i with
  | prefixCb => exact fun hwf => nomatch hwf
  | ldBcN16 n16 => exact RoundTrip.ldBcN16 n16
  | ldDeN16 n16 => exact RoundTrip.ldDeN16 n16
  | ldHlN16 n16 => exact RoundTrip.ldHlN16 n16
  | ldSpN16 n16 => exact RoundTrip.ldSpN16 n16
  | ldMemA16Sp a16 => exact RoundTrip.ldMemA16Sp a16
  | ldMemA16A a16 => exact RoundTrip.ldMemA16A a16
  | ldAMemA16 a16 => exact RoundTrip.ldAMemA16 a16
  | jpA16 a16 => exact RoundTrip.jpA16 a16
  | jpNzA16 a16 => exact RoundTrip.jpNzA16 a16
  | jpZA16 a16 => exact RoundTrip.jpZA16 a16
  | jpNcA16 a16 => exact RoundTrip.jpNcA16 a16
  | jpCA16 a16 => exact RoundTrip.jpCA16 a16
  | callA16 a16 => exact RoundTrip.callA16 a16
  | callNzA16 a16 => exact RoundTrip.callNzA16 a16
  | callZA16 a16 => exact RoundTrip.callZA16 a16
  | callNcA16 a16 => exact RoundTrip.callNcA16 a16
  | callCA16 a16 => exact RoundTrip.callCA16 a16
  | _ => exact fun _ _ => rfl

/-- Settles O3: each of the three forms that decode is what the encoder makes of its instruction. -/
theorem encodeOfDecodeGivesBytes : Obligations.EncodeOfDecodeGivesBytes := by
  intro bytes rest i h
  obtain ⟨rfl, rfl, rfl⟩ | ⟨op2, rfl, rfl⟩ | ⟨op, b1, b2, -, rfl, rfl⟩ := decode_eq_ok_cases h
  · rfl
  · rw [encode_decodeCb]
    rfl
  · rw [encode_decodePrimary]

/-- Settles O4: 0xCB has its second byte for an operand, every other opcode the operand bytes of
R72. -/
theorem firstByteTellsLength : Obligations.FirstByteTellsLength := by
  intro op
  by_cases hcb : op = 0xCB#8
  · subst hcb
    refine ⟨2, by decide, by decide, fun _ => rfl, fun operands hn => ?_⟩
    match operands, hn with
    | [op2], _ => exact ⟨decodeCb op2, encode_decodeCb op2, decode_cb op2⟩
  · have hlen := primaryLength_eq_one_or_two_or_three op
    exact ⟨primaryLength op, by omega, by omega, fun h => absurd h hcb,
      fun _ => exists_decodes_of_length hcb⟩

end Sys2Proof.Laws
end

section
/-! The step (30_encoding.md R60): O6 to O9, O11 and O12. Each case of a step has its equation; a
step that fetches is `exec` of what `decode` reads at PC. -/

namespace Sys2Proof.Machine

/-! ### The cases of a step -/

theorem step_of_fetching {s : State} (hf : s.Fetching) :
    step s = mapNext State.finishStep (exec s.fetchInstr.1 s.fetchInstr.2) := by
  obtain ⟨hfatal, hstopped, hhalted⟩ := hf
  simp [step, cycle, hfatal, hstopped, hhalted]

theorem step_of_halted {s : State} (hfatal : s.fatal = none) (hstopped : s.stopped = false)
    (hhalted : s.halted = true) : step s = .next s.interruptCheck := by
  simp [step, cycle, hfatal, hstopped, hhalted]

theorem step_of_terminal {s : State} (h : s.Terminal) : step s = .next s := by
  unfold step cycle
  obtain hfatal | hstopped := h
  · rw [if_pos (Option.isSome_iff_ne_none.mpr hfatal)]
  · rw [if_pos hstopped, ite_self]

/-- A step that fetches runs what `decode` reads at PC, with PC past the bytes it used. -/
theorem step_of_decode {s : State} {i : Instr} {rest : List Byte} (hf : s.Fetching)
    (hd : decode [s.readByte s.pc, s.readByte (s.pc + 1#16), s.readByte (s.pc + 2#16)] =
      .ok (i, rest)) :
    step s = mapNext State.finishStep
      (exec i { s with pc := s.pc + BitVec.ofNat 16 (3 - rest.length) }) := by
  obtain ⟨rest', hd', hpc⟩ := s.fetchInstr_eq_decode
  cases hd.symm.trans hd'
  rw [step_of_fetching hf, hpc]

/-- The same for a one-byte instruction, whatever stands after it. -/
theorem step_of_decodes_byte {s : State} {op : Byte} {i : Instr} (hf : s.Fetching)
    (hop : s.readByte s.pc = op) (hd : Claims.Decodes [op] i) :
    step s = mapNext State.finishStep (exec i { s with pc := s.pc + 1#16 }) := by
  subst hop
  exact step_of_decode hf (hd [_, _])

theorem State.finishStep_of_fatal_none {s : State} (h : s.fatal = none) :
    s.finishStep = s.interruptCheck := by
  simp [State.finishStep, h]

/-- A one-byte instruction that raises no fatal condition ends in the interrupt check. -/
theorem step_eq_interruptCheck {s t : State} {op : Byte} {i : Instr} (hf : s.Fetching)
    (hop : s.readByte s.pc = op) (hd : Claims.Decodes [op] i)
    (hexec : exec i { s with pc := s.pc + 1#16 } = .next t) (hfatal : t.fatal = none) :
    step s = .next t.interruptCheck := by
  rw [step_of_decodes_byte hf hop hd, hexec, mapNext, State.finishStep_of_fatal_none hfatal]

theorem exists_step_next (s : State) : ∃ t, step s = .next t := by
  obtain ⟨-, h⟩ | ⟨-, -, h⟩ | ⟨-, -, -, h⟩ | ⟨-, -, -, t, -, -, h⟩ := step_cases s <;>
    exact ⟨_, h⟩

/-! ### The interrupt check with nothing to take (60_exceptions.md R302, R303) -/

theorem State.interruptCheck_eq_wakeUp {s : State}
    (h : s.ime = false ∨ s.activeRequests &&& 0x1F#8 = 0#8) : s.interruptCheck = s.wakeUp := by
  obtain ⟨k, hime, hk, -⟩ | ⟨-, hcheck⟩ := s.interruptCheck_cases
  · obtain hoff | hnone := h
    · simp [hoff] at hime
    · rw [lowestSource_eq_none.mpr hnone] at hk
      cases hk
  · exact hcheck

/-- A core that is awake has nothing to wake up from. -/
theorem State.interruptCheck_eq_self {s : State} (hime : s.ime = false)
    (hhalted : s.halted = false) : s.interruptCheck = s := by
  rw [State.interruptCheck_eq_wakeUp (.inl hime), State.wakeUp]
  split
  · rfl
  · rw [← hhalted]

/-- A one-byte instruction that leaves IME 0 and the core awake is the whole step. -/
theorem step_eq_of_ime_off {s t : State} {op : Byte} {i : Instr} (hf : s.Fetching)
    (hop : s.readByte s.pc = op) (hd : Claims.Decodes [op] i)
    (hexec : exec i { s with pc := s.pc + 1#16 } = .next t) (hfatal : t.fatal = none)
    (hime : t.ime = false) (hhalted : t.halted = false) : step s = .next t := by
  rw [step_eq_interruptCheck hf hop hd hexec hfatal, State.interruptCheck_eq_self hime hhalted]

theorem State.interruptCheck_eq_self_of_if_zero {s : State} (h : s.readByte ifAddress = 0#8) :
    s.interruptCheck = s := by
  have hnone : s.activeRequests &&& 0x1F#8 = 0#8 := by simp [State.activeRequests, h]
  rw [State.interruptCheck_eq_wakeUp (.inr hnone), State.wakeUp, if_pos h]

/-! ### Runs -/

theorem core_run_succ (M : Host.Core) {s t : M.State} (h : M.step s = .next t) (n : Nat) :
    M.run (n + 1) s = M.run n t := by
  rw [Host.Core.run, h]

theorem RunState.iterate_of_step {r : RunState} {t : State} (hr : r.running = true)
    (h : step r.core = .next t) : r.iterate = .next (r.observe t) := by
  rw [RunState.iterate, if_pos hr, h]

theorem RunState.iterate_of_not_running {r : RunState} (hr : r.running = false) :
    r.iterate = .next r := by
  simp [RunState.iterate, hr]

/-! ### The status bits (10_state.md R16 to R18) -/

theorem Effect.ime {i : Instr} {s t : State} (h : Effect i s t) (hne : t.ime ≠ s.ime) :
    i = .ei ∨ i = .di ∨ i = .reti := by
  cases h with
  | plain hp => exact absurd hp.status.1 hne
  | ei | di | reti => simp
  | halt | stop | fatal => exact absurd rfl hne

theorem Effect.halted {i : Instr} {s t : State} (h : Effect i s t) (hne : t.halted ≠ s.halted) :
    i = .halt := by
  cases h with
  | plain hp => exact absurd hp.status.2.1 hne
  | halt => rfl
  | ei | di | reti | stop | fatal => exact absurd rfl hne

theorem Effect.stopped {i : Instr} {s t : State} (h : Effect i s t) (hne : t.stopped ≠ s.stopped) :
    i = .stop := by
  cases h with
  | plain hp => exact absurd hp.status.2.2.1 hne
  | stop => rfl
  | ei | di | reti | halt | fatal => exact absurd rfl hne

/-! ### The obligations -/

/-- Settles O6: `step_of_decode`, with `State.finishStep` written out. -/
theorem stepRunsDecodedInstruction : Obligations.StepRunsDecodedInstruction :=
  fun _ _ _ hf hd => step_of_decode hf hd

/-- Settles O7: every effect that `exec_effect` names is a next state. -/
theorem everyInstructionAndStepGoesOn : Obligations.EveryInstructionAndStepGoesOn :=
  ⟨exec_next, exists_step_next⟩

/-- Settles O8: with IF = 0 the check neither wakes the core nor takes an interrupt. -/
theorem haltedStepOnlyChecks : Obligations.HaltedStepOnlyChecks := by
  intro s hfatal hstopped hhalted
  have hstep := step_of_halted hfatal hstopped hhalted
  exact ⟨hstep, fun hif => by rw [hstep, State.interruptCheck_eq_self_of_if_zero hif]⟩

/-- Settles O9, by induction on the number of steps. -/
theorem terminalCoreNeverChanges : Obligations.TerminalCoreNeverChanges := by
  intro s hs n
  induction n with
  | zero => rfl
  | succ n ih => exact (core_run_succ core (step_of_terminal hs) n).trans ih

/-- Settles O11, from the one effect that each instruction has. -/
theorem statusChangedOnlyByItsInstructions : Obligations.StatusChangedOnlyByItsInstructions := by
  intro i s t h
  have heffect := effect_of_exec h
  exact ⟨heffect.ime, heffect.halted, heffect.stopped⟩

/-- Settles O12: the host's half of the turn looks at the fatal record alone. -/
theorem runLoopReportsFatal : Obligations.RunLoopReportsFatal := by
  refine fun r => ⟨RunState.iterate_of_not_running, fun t hr h => ?_⟩
  rw [RunState.iterate_of_step hr h, RunState.observe]
  refine ⟨fun hnone => ?_, fun rec hsome => ?_⟩
  · rw [hnone]
  · rw [hsome]

end Sys2Proof.Machine
end

section
/-! The illegal opcodes and the fatal condition (30_encoding.md R78, 48_system.md R276): O5 and O10.
All that is said of the eleven is said of the rows of `illegalTable`. -/

namespace Sys2Proof.Machine

theorem illegalTable_decodes_and_exec {p : Instr × Byte} (h : p ∈ illegalTable) :
    Claims.Decodes [p.2] p.1 ∧ ∀ s : State, exec p.1 s = .next (s.raiseFatal p.2) := by
  unfold illegalTable at h
  fin_cases h <;> exact ⟨fun _ => rfl, fun _ => rfl⟩

theorem illegalTable_encode {i : Instr} {op : Byte} (h : (i, op) ∈ illegalTable) :
    encode i = [op] := by
  have hall : ∀ p ∈ illegalTable, encode p.1 = [p.2] := by decide
  exact hall _ h

/-- Only an illegal instruction changes the fatal record. -/
theorem Effect.fatal_changed {i : Instr} {s t : State} (h : Effect i s t)
    (hne : t.fatal ≠ s.fatal) : ∃ op, (i, op) ∈ illegalTable := by
  cases h with
  | plain hp => exact absurd hp.status.2.2.2 hne
  | fatal _ _ op hmem => exact ⟨op, hmem⟩
  | ei | di | reti | halt | stop => exact absurd rfl hne

theorem State.finishStep_raiseFatal (s : State) (op : Byte) :
    (s.raiseFatal op).finishStep = s.raiseFatal op := rfl

/-- Settles O5: a first byte is the opcode of the instruction that it decodes to, because encoding
gives it back. -/
theorem illegalOpcodesRaiseFatal : Obligations.IllegalOpcodesRaiseFatal := by
  refine ⟨fun p hp => ?raise, fun op operands rest i s t hdecode hexec hne => ?only⟩
  case raise =>
    have hall : ∀ q ∈ illegalTable.map Prod.swap, (q.2, q.1) ∈ illegalTable := by decide
    exact illegalTable_decodes_and_exec (hall p hp)
  case only =>
    obtain ⟨op', hmem⟩ := (effect_of_exec hexec).fatal_changed hne
    have hbytes := Laws.encodeOfDecodeGivesBytes _ _ _ hdecode
    rw [illegalTable_encode hmem] at hbytes
    cases hbytes
    exact List.mem_map_of_mem (f := Prod.snd) hmem

/-- Settles O10: raising the fatal condition is the whole step. -/
theorem fatalStepRecordsAndSkipsCheck : Obligations.FatalStepRecordsAndSkipsCheck := by
  intro s hf hop
  obtain ⟨⟨i, op⟩, hmem, hpc⟩ := List.exists_of_mem_map (f := Prod.snd) (l := illegalTable) hop
  obtain ⟨hdecodes, hexec⟩ := illegalTable_decodes_and_exec hmem
  rw [step_of_decodes_byte hf hpc.symm hdecodes, hexec, mapNext, State.finishStep_raiseFatal,
    State.raiseFatal, BitVec.add_sub_cancel, hpc]

end Sys2Proof.Machine
end

section
/-! What every step keeps (10_state.md R13, 20_memory.md R35): O13 and O15. A property that no
effect, no interrupt check and no move of PC destroys is kept by every step; both statements are of
this kind. -/

namespace Sys2Proof.Machine

/-- The rule for a property that every step keeps: one goal for each part of a step. -/
theorem step_keeps {P : State → Prop} (hpc : ∀ (s : State) (pc : Word), P s → P { s with pc := pc })
    (heffect : ∀ {i : Instr} {s t : State}, Effect i s t → P s → P t)
    (hcheck : ∀ s : State, P s → P s.interruptCheck) {s t : State} (hs : P s)
    (h : step s = .next t) : P t := by
  have hfinish : ∀ u : State, P u → P u.finishStep := by
    intro u hu
    unfold State.finishStep
    split
    · exact hu
    · exact hcheck u hu
  obtain ⟨-, h'⟩ | ⟨-, -, h'⟩ | ⟨-, -, -, h'⟩ | ⟨-, -, -, u, -, hu, h'⟩ := step_cases s
  all_goals cases h.symm.trans h'
  · exact hs
  · exact hs
  · exact hcheck s hs
  · obtain ⟨rest, -, hfetch⟩ := s.fetchInstr_eq_decode
    rw [hfetch] at hu
    exact hfinish u (heffect hu (hpc s _ hs))

/-! ### The invariant (10_state.md R13, log entry 17) -/

/-! An effect that is not plain changes neither memory nor F. -/

theorem Effect.wf {i : Instr} {s t : State} (h : Effect i s t) (hm : s.mem.wf) : t.mem.wf := by
  cases h with
  | plain hp => exact hp.wf hm
  | halt | stop | di | ei | reti | fatal => exact hm

theorem Effect.low {i : Instr} {s t : State} (h : Effect i s t) (hf : s.f.extractLsb' 0 4 = 0#4) :
    t.f.extractLsb' 0 4 = 0#4 := by
  cases h with
  | plain hp => exact hp.low hf
  | halt | stop | di | ei | reti | fatal => exact hf

theorem Effect.inv {i : Instr} {s t : State} (h : Effect i s t) (hs : s.Inv) : t.Inv :=
  ⟨h.wf hs.1, h.low hs.2⟩

theorem State.inv_interruptCheck {s : State} (hs : s.Inv) : s.interruptCheck.Inv :=
  ⟨State.wf_interruptCheck hs.1, by rw [State.interruptCheck_f]; exact hs.2⟩

/-- Settles O13, by `step_keeps`. -/
theorem stepKeepsInvariant : Obligations.StepKeepsInvariant :=
  fun _ _ hs h => step_keeps (fun _ _ hu => hu) Effect.inv (fun _ => State.inv_interruptCheck) hs h

/-! ### ROM (20_memory.md R35) -/

/-- Memory is canonical, and every byte of ROM reads as it does in `s`. -/
def State.RomOf (s t : State) : Prop :=
  t.mem.wf ∧ ∀ a : Word, a.toNat < 0x8000 → t.readByte a = s.readByte a

theorem State.readByte_push16_rom {s : State} (hm : s.mem.wf) (v : Word) {a : Word}
    (ha : a.toNat < 0x8000) : (s.push16 v).readByte a = s.readByte a := by
  rw [State.readByte_push16, State.readByte_writeWord_rom hm _ _ ha]

/-- Whatever a plain effect stores, it stores with `writeByte`. -/
theorem PlainEffect.readByte_rom {s t : State} (h : PlainEffect s t) (hm : s.mem.wf) {a : Word}
    (ha : a.toNat < 0x8000) : t.readByte a = s.readByte a := by
  induction h with
  | operand s o v | operandFlags s o v =>
    cases o with
    | reg r => exact s.readByte_writeR8 r v a
    | memHl => exact State.readByte_writeByte_rom hm s.hl v ha
  | storeByte s x v | storeAdjust s x v => exact State.readByte_writeByte_rom hm x v ha
  | storeWord s x v => exact State.readByte_writeWord_rom hm x v ha
  | push s v => exact State.readByte_push16_rom hm v ha
  | call s target => exact State.readByte_push16_rom hm s.pc ha
  | pair s p v | pairFlags s p v => exact s.readByte_writeRp p v a
  | pop s p hp v => cases p <;> rfl
  | afterFetch s pc _ ih => exact ih hm
  | same | flags | loadAdjust | jump | ret | popAf => rfl

theorem Effect.readByte_rom {i : Instr} {s t : State} (h : Effect i s t) (hm : s.mem.wf) {a : Word}
    (ha : a.toNat < 0x8000) : t.readByte a = s.readByte a := by
  cases h with
  | plain hp => exact hp.readByte_rom hm ha
  | halt | stop | di | ei | reti | fatal => rfl

/-- The push of a dispatch and its clearing of IF are stores like any other. -/
theorem State.readByte_interruptCheck_rom {s : State} (hm : s.mem.wf) {a : Word}
    (ha : a.toNat < 0x8000) : s.interruptCheck.readByte a = s.readByte a := by
  obtain ⟨k, -, -, hcheck⟩ | ⟨-, hcheck⟩ := s.interruptCheck_cases
  · have hne : a ≠ ifAddress := by
      rintro rfl
      exact absurd ha (by decide)
    have hm' : s.wakeUp.mem.wf := by rwa [State.wakeUp_mem]
    rw [hcheck, State.readByte_takeInterrupt hm', if_neg hne, State.readByte_push16_rom hm' _ ha,
      State.readByte_wakeUp]
  · rw [hcheck, State.readByte_wakeUp]

/-- Settles O15, by `step_keeps` for what `State.RomOf` says of the state before. -/
theorem stepKeepsRom : Obligations.StepKeepsRom := by
  intro s t hs h
  have ht : s.RomOf t := by
    refine step_keeps (P := s.RomOf) (fun _ _ hu => hu) ?effect ?check ⟨hs.1, fun _ _ => rfl⟩ h
    case effect =>
      exact fun he ⟨hm, hrom⟩ =>
        ⟨he.wf hm, fun a ha => (he.readByte_rom hm ha).trans (hrom a ha)⟩
    case check =>
      exact fun u ⟨hm, hrom⟩ => ⟨State.wf_interruptCheck hm,
        fun a ha => (State.readByte_interruptCheck_rom hm ha).trans (hrom a ha)⟩
  exact ht.2

end Sys2Proof.Machine
end

section
/-! Memory (20_memory.md R31, R40, R41, R47, R49) and power-on (70_reset_and_hazards.md R330, R331):
O14, O16 to O18, O21 to O23. -/

namespace Sys2Proof.Machine

/-! ### The region table (R31) -/

/-- The first and the last address of a region (R31). -/
def regionBounds : Region → Nat × Nat
  | .rom0 => (0x0000, 0x3FFF)
  | .rom1 => (0x4000, 0x7FFF)
  | .vram => (0x8000, 0x9FFF)
  | .eram => (0xA000, 0xBFFF)
  | .wramA => (0xC000, 0xCFFF)
  | .wramB => (0xD000, 0xDFFF)
  | .echo => (0xE000, 0xFDFF)
  | .oam => (0xFE00, 0xFE9F)
  | .unusable => (0xFEA0, 0xFEFF)
  | .io => (0xFF00, 0xFF7F)
  | .hram => (0xFF80, 0xFFFE)
  | .ie => (0xFFFF, 0xFFFF)

/-- Address `k` lies in the range of region `r`. -/
def InRange (k : Nat) (r : Region) : Prop := (regionBounds r).1 ≤ k ∧ k ≤ (regionBounds r).2

theorem inRange_regionOf {k : Nat} (hk : k ≤ 0xFFFF) : InRange k (regionOf k) := by
  unfold regionOf
  repeat' refine iteInduction (motive := InRange k) (fun _ => ?_) (fun _ => ?_)
  all_goals simp only [InRange, regionBounds]; omega

/-- The ranges are disjoint. -/
theorem eq_of_regionBounds_le : ∀ r r' : Region, (regionBounds r).1 ≤ (regionBounds r').2 →
    (regionBounds r').1 ≤ (regionBounds r).2 → r = r' := by
  intro r r'
  cases r <;> cases r' <;> decide

theorem region_eq_iff {a : Word} {r : Region} :
    region a = r ↔ (regionBounds r).1 ≤ a.toNat ∧ a.toNat ≤ (regionBounds r).2 := by
  obtain ⟨hlo, hhi⟩ := inRange_regionOf (Nat.le_of_lt_succ a.isLt)
  refine ⟨fun h => h ▸ ⟨hlo, hhi⟩, fun ⟨hlo', hhi'⟩ => ?_⟩
  exact eq_of_regionBounds_le _ _ (Nat.le_trans hlo hhi') (Nat.le_trans hlo' hhi)

theorem writable_eq_true_iff {a : Word} :
    writable a = true ↔ region a ≠ .rom0 ∧ region a ≠ .rom1 ∧ region a ≠ .unusable := by
  rw [← Bool.not_eq_false, writable_eq_false_iff, not_or, not_or]

theorem storageAddress_eq_of_region (a : Word) :
    storageAddress a = if region a = .unusable then none
      else if region a = .echo then some (a.toNat - 0x2000) else some a.toNat := by
  unfold storageAddress
  cases region a <;> rfl

/-- Settles O18: the ranges are those of `regionBounds`, the first and the last one with one bound
to say. -/
theorem regionTable : Obligations.RegionTable := by
  intro a
  have hrom0 : region a = .rom0 ↔ a.toNat ≤ 0x3FFF :=
    region_eq_iff.trans (and_iff_right (Nat.zero_le _))
  have hie : region a = .ie ↔ a.toNat = 0xFFFF :=
    region_eq_iff.trans (and_comm.trans le_antisymm_iff.symm)
  exact ⟨hrom0, region_eq_iff, region_eq_iff, region_eq_iff, region_eq_iff, region_eq_iff,
    region_eq_iff, region_eq_iff, region_eq_iff, region_eq_iff, region_eq_iff, hie,
    writable_eq_true_iff, storageAddress_eq_of_region a⟩

/-! ### The canonical form (log entry 17) -/

theorem Memory.get_head (cell : Host.Cell) (m : Memory) :
    Memory.get (cell :: m) cell.1 = cell.2 := by
  rw [Memory.get, if_pos rfl]

theorem Memory.get_tail {cell : Host.Cell} {k : Nat} (h : cell.1 ≠ k) (m : Memory) :
    Memory.get (cell :: m) k = m.get k := by
  rw [Memory.get, if_neg h]

/-- A listed address reads as something that an unlisted one does not. -/
theorem Memory.get_head_ne_memInit {cell : Host.Cell} {m : Memory} (h : Memory.wf (cell :: m)) :
    Memory.get (cell :: m) cell.1 ≠ Config.memInit cell.1 := by
  rw [Memory.get_head]
  exact (h.2 cell List.mem_cons_self).2

/-- Two canonical lists that read alike begin with the same address: below its first cell, a list
reads as unlisted. -/
theorem Memory.head_le_of_get_eq {c c' : Host.Cell} {m m' : Memory} (hm : Memory.wf (c :: m))
    (hm' : Memory.wf (c' :: m')) (h : ∀ k, Memory.get (c :: m) k = Memory.get (c' :: m') k) :
    c'.1 ≤ c.1 := by
  by_contra hlt
  refine Memory.get_head_ne_memInit hm ((h c.1).trans (Memory.get_eq_memInit fun d hd => ?_))
  obtain rfl | hd := List.mem_cons.mp hd
  · omega
  · exact Nat.lt_trans (Nat.lt_of_not_le hlt) (Memory.wf_head_lt hm' d hd)

/-- Settles O21, by induction on both lists: they begin with the same cell, and without it they
still read alike. -/
theorem canonicalMemoryIsItsReads : Obligations.CanonicalMemoryIsItsReads := by
  intro m
  induction m with
  | nil =>
    intro m' _ hm' h
    cases m' with
    | nil => rfl
    | cons c' m' => exact absurd (h c'.1).symm (Memory.get_head_ne_memInit hm')
  | cons c m ih =>
    intro m' hm hm' h
    cases m' with
    | nil => exact absurd (h c.1) (Memory.get_head_ne_memInit hm)
    | cons c' m' =>
      have hkey : c.1 = c'.1 := Nat.le_antisymm
        (Memory.head_le_of_get_eq hm' hm fun k => (h k).symm) (Memory.head_le_of_get_eq hm hm' h)
      have hbyte : c.2 = c'.2 := by
        rw [← Memory.get_head c m, h, hkey, Memory.get_head]
      have htail : m = m' := by
        refine ih m' (Memory.wf_tail hm) (Memory.wf_tail hm') fun k => ?_
        by_cases hk : c.1 = k
        · subst hk
          rw [Memory.get_eq_memInit (Memory.wf_head_lt hm),
            Memory.get_eq_memInit (hkey ▸ Memory.wf_head_lt hm')]
        · rw [← Memory.get_tail hk m, h, Memory.get_tail (hkey ▸ hk)]
      rw [Prod.ext hkey hbyte, htail]

/-! ### Words and code in memory (R40, R41, R49) -/

/-- Settles O22, by the laws of `readWord` and `writeWord`. -/
theorem wordsAreLittleEndian : Obligations.WordsAreLittleEndian := by
  refine fun s a v => ⟨?read, s.storesWord_writeWord a v,
    fun hm h h1 => State.readWord_writeWord hm h h1 v⟩
  rw [State.readWord, word_toNat]
  omega

/-- A whole instruction of one byte decodes whatever follows it. -/
theorem decodes_of_decode_byte {op : Byte} {i : Instr} (h : decode [op] = .ok (i, []))
    (hi : i ≠ .prefixCb) : Claims.Decodes [op] i := by
  have hwf : i.wellFormed = true := decide_eq_true hi
  have hbytes := Laws.encodeOfDecodeGivesBytes _ _ _ h
  rw [List.append_nil] at hbytes
  rw [hbytes]
  exact Laws.decodeOfEncodeGivesInstruction i hwf

/-- Settles O23: the store is seen where PC points, and moves neither PC nor the status. -/
theorem fetchSeesStoredByte : Obligations.FetchSeesStoredByte := by
  intro s op i hm hf hw hdecode hi
  have hpc : (s.writeByte s.pc op).pc = s.pc := s.writeByte_pc s.pc op
  have hfetching : (s.writeByte s.pc op).Fetching := by
    obtain ⟨hfatal, hstopped, hhalted⟩ := hf
    exact ⟨(s.writeByte_fatal s.pc op).trans hfatal, (s.writeByte_stopped s.pc op).trans hstopped,
      (s.writeByte_halted s.pc op).trans hhalted⟩
  have hread : (s.writeByte s.pc op).readByte s.pc = op :=
    State.readByte_writeByte_same hm hw rfl op
  rw [step_of_decodes_byte hfetching (hpc.symm ▸ hread) (decodes_of_decode_byte hdecode hi), hpc]

/-! ### Power-on and `load_rom` (R47, R330, R331) -/

theorem State.readByte_reset {a : Word} (h : a.toNat < 0xFEA0 ∨ 0xFEFF < a.toNat) :
    State.reset.readByte a = 0#8 := by
  have hstored : storageAddress a ≠ none := by
    rw [storageAddress_eq, if_neg (by omega)]
    split <;> simp
  obtain ⟨k, hk⟩ := Option.ne_none_iff_exists'.mp hstored
  rw [State.readByte, hk]
  rfl

/-- Settles O14: loading touches neither the canonical form nor F. -/
theorem powerOnMeetsInvariant : Obligations.PowerOnMeetsInvariant :=
  ⟨⟨Memory.wf_nil, by decide⟩, fun image => ⟨State.wf_loadRom Memory.wf_nil image, by
    show State.reset.f.extractLsb' 0 4 = 0#4
    decide⟩⟩

/-- Settles O16: the registers by computation, memory because power-on lists nothing. -/
theorem powerOnValues : Obligations.PowerOnValues :=
  ⟨by decide, by decide, by decide, by decide, rfl, rfl, rfl, rfl, rfl, rfl, by decide, by decide,
    by decide, by decide, fun _ => State.readByte_reset⟩

theorem State.readByte_powerOnWith_of_storageAddress (init : Nat → Byte) (image : List Byte)
    {a : Word} {k : Nat} (h : storageAddress a = some k) :
    (powerOnWith init image).readByte a =
      if k < 0x8000 then image.getD k 0#8 else init k := by
  rw [State.readByte, h]
  exact State.get_powerOnWith init image (ownsStorage_of_storageAddress h)

/-- Every byte at power-on (00_scope.md R4): ROM holds the image and the zero fill, whatever
MEM_INIT says of it. -/
theorem State.readByte_powerOnWith (init : Nat → Byte) (image : List Byte) (a : Word) :
    (powerOnWith init image).readByte a =
      if a.toNat < 0x8000 then image.getD a.toNat 0#8
      else if region a = .unusable then 0xFF#8
      else if region a = .echo then init (a.toNat - 0x2000)
      else init a.toNat := by
  have hstorage := storageAddress_eq_of_region a
  by_cases hu : region a = .unusable
  · obtain ⟨hlo, -⟩ : 0xFEA0 ≤ a.toNat ∧ a.toNat ≤ 0xFEFF := region_eq_iff.mp hu
    rw [if_neg (by omega), if_pos hu, State.readByte_of_unusable _ hu]
  rw [if_neg hu] at hstorage ⊢
  by_cases he : region a = .echo
  · obtain ⟨hlo, -⟩ : 0xE000 ≤ a.toNat ∧ a.toNat ≤ 0xFDFF := region_eq_iff.mp he
    rw [if_pos he] at hstorage ⊢
    rw [State.readByte_powerOnWith_of_storageAddress init image hstorage, if_neg (by omega),
      if_neg (by omega)]
  · rw [if_neg he] at hstorage ⊢
    exact State.readByte_powerOnWith_of_storageAddress init image hstorage

/-- The machine's own power-on is the one with its own MEM_INIT (log entry 3). -/
theorem powerOnWith_memInit (image : List Byte) :
    powerOnWith Config.memInit image = powerOn image := by
  rw [powerOnWith, powerOnStorage_memInit]
  rfl

/-- Settles O17: below 0x8000 a byte at power-on is the image's, and from there on no image matters,
so that it is as after loading nothing. -/
theorem loadRomPlacesImage : Obligations.LoadRomPlacesImage := by
  intro image a
  have hreset : State.reset = powerOnWith Config.memInit [] := (powerOnWith_memInit []).symm
  rw [hreset, ← powerOnWith_memInit, State.readByte_powerOnWith, State.readByte_powerOnWith]
  refine ⟨fun hrom => if_pos hrom, fun hhigh => ?_⟩
  rw [if_neg (Nat.not_lt.mpr hhigh), if_neg (Nat.not_lt.mpr hhigh)]

end Sys2Proof.Machine
end

section
/-! Interrupts (60_exceptions.md R302 to R311, 48_system.md R273, R274): O24 to O27. With IME set
and a request enabled, the check is `State.takeInterrupt` of some source; what that does to memory
is said in the statements' own terms, once. -/

namespace Sys2Proof.Machine

/-! ### The sources (R300) -/

theorem exists_source_of_lt {k : Nat} (hk : k < 5) : ∃ source, sourceBit source = k := by
  interval_cases k
  · exact ⟨.vblank, rfl⟩
  · exact ⟨.lcdStat, rfl⟩
  · exact ⟨.timer, rfl⟩
  · exact ⟨.serial, rfl⟩
  · exact ⟨.joypad, rfl⟩

theorem sourceVector_eq (source : InterruptSource) :
    sourceVector source = BitVec.ofNat 16 (0x0040 + 8 * sourceBit source) := by
  cases source <;> rfl

theorem sourceVector_bounds (source : InterruptSource) :
    0x0040 ≤ (sourceVector source).toNat ∧ (sourceVector source).toNat ≤ 0x0060 := by
  cases source <;> decide

/-! ### Taking an interrupt -/

theorem State.afterWord_wakeUp (s : State) (addr a v : Word) :
    Claims.afterWord s.wakeUp addr a v = Claims.afterWord s addr a v := by
  rw [Claims.afterWord, State.readByte_wakeUp]
  rfl

/-- The push, then the request bit cleared in IF as the push left it (R304). -/
theorem State.readByte_wakeUp_takeInterrupt {s : State} (hm : s.mem.wf) (source : InterruptSource)
    (a : Word) : (s.wakeUp.takeInterrupt source).readByte a =
      if a = ifAddress
      then Claims.afterWord s (s.sp - 2#16) a s.pc &&& ~~~(1#8 <<< sourceBit source)
      else Claims.afterWord s (s.sp - 2#16) a s.pc := by
  have hm' : s.wakeUp.mem.wf := by rwa [State.wakeUp_mem]
  rw [State.readByte_takeInterrupt hm', s.wakeUp.storesWord_push16 _ hm', State.wakeUp_sp,
    State.wakeUp_pc, State.afterWord_wakeUp]

theorem State.interruptCheck_of_lowestSource {s : State} {source : InterruptSource}
    (hime : s.ime = true) (h : lowestSource s.activeRequests = some source) :
    s.interruptCheck = s.wakeUp.takeInterrupt source := by
  rw [State.interruptCheck, if_pos hime, h]

theorem State.wakeUp_halted_of_active {s : State} {k : Nat}
    (h : s.activeRequests.getLsbD k = true) : s.wakeUp.halted = false := by
  have hif : s.readByte ifAddress ≠ 0#8 := by
    intro hzero
    simp [State.activeRequests, hzero] at h
  rw [State.wakeUp, if_neg hif]

/-- What the statements about one instruction's step say of a dispatch: some source's vector, SP,
and every byte but IF. -/
theorem State.interruptCheck_of_pending {s : State} (hime : s.ime = true)
    (hpending : s.activeRequests &&& 0x1F#8 ≠ 0#8) :
    s.interruptCheck.ime = false ∧ s.interruptCheck.sp = s.sp - 2#16 ∧
      0x0040 ≤ s.interruptCheck.pc.toNat ∧ s.interruptCheck.pc.toNat ≤ 0x0060 ∧
      (s.mem.wf → ∀ a, a ≠ ifAddress →
        s.interruptCheck.readByte a = Claims.afterWord s (s.sp - 2#16) a s.pc) := by
  obtain ⟨source, hsource⟩ :=
    Option.ne_none_iff_exists'.mp fun h => hpending (lowestSource_eq_none.mp h)
  obtain ⟨hlo, hhi⟩ := sourceVector_bounds source
  rw [State.interruptCheck_of_lowestSource hime hsource]
  refine ⟨State.takeInterrupt_ime _ _, ?_, hlo, hhi, fun hm a ha => ?_⟩
  · rw [State.takeInterrupt_sp, State.wakeUp_sp]
  · rw [State.readByte_wakeUp_takeInterrupt hm, if_neg ha]

/-- Storing the word that is read there changes no byte. -/
theorem State.afterWord_readWord (s : State) (addr a : Word) :
    Claims.afterWord s addr a (s.readWord addr) = s.readByte a := by
  have hlow : (s.readWord addr).extractLsb' 0 8 = s.readByte addr := lowByte_word _ _
  have hhigh : (s.readWord addr).extractLsb' 8 8 = s.readByte (addr + 1#16) := highByte_word _ _
  have hstore : ∀ x : Word, Claims.afterStore x a (s.readByte x) (s.readByte a) = s.readByte a := by
    intro x
    unfold Claims.afterStore
    split
    next h => exact (s.readByte_eq_of_storageAddress_eq h.2).symm
    next => rfl
  rw [Claims.afterWord, hlow, hhigh, hstore, hstore]

/-! ### The obligations -/

/-- Settles O24: `k` is the bit of the source that the check takes. -/
theorem interruptIsTaken : Obligations.InterruptIsTaken := by
  intro s k hm hime hk hbit hlower
  obtain ⟨source, rfl⟩ := exists_source_of_lt hk
  rw [State.interruptCheck_of_lowestSource hime (lowestSource_eq_some.mpr ⟨hbit, hlower⟩)]
  refine ⟨fun x => ?regs, ?flags, State.takeInterrupt_ime _ _, ?halted, ?stopped, ?fatal, ?sp,
    sourceVector_eq source, State.readByte_wakeUp_takeInterrupt hm source⟩
  case regs => rw [State.readR8_takeInterrupt, State.readR8_wakeUp]
  case flags => rw [State.takeInterrupt_f, State.wakeUp_f]
  case halted => rw [State.takeInterrupt_halted, State.wakeUp_halted_of_active hbit]
  case stopped => rw [State.takeInterrupt_stopped, State.wakeUp_stopped]
  case fatal => rw [State.takeInterrupt_fatal, State.wakeUp_fatal]
  case sp => rw [State.takeInterrupt_sp, State.wakeUp_sp]

/-- Settles O25: what is left of the check is its wake-up. -/
theorem noInterruptWithoutEnable : Obligations.NoInterruptWithoutEnable := by
  intro s h
  rw [State.interruptCheck_eq_wakeUp h, State.wakeUp_eq]
  rfl

/-- Settles O26: the check of the same step sees IME as EI or DI has left it. -/
theorem eiAndDiActInTheirOwnStep : Obligations.EiAndDiActInTheirOwnStep := by
  intro s hf hpending
  have ⟨hfatal, _, hhalted⟩ := hf
  refine ⟨fun hop => ?ei, fun hop => ?di⟩
  case ei =>
    have hstep := step_eq_interruptCheck hf hop (Laws.RoundTrip.ei rfl) rfl hfatal
    exact ⟨_, hstep, State.interruptCheck_of_pending rfl hpending⟩
  case di =>
    exact step_eq_of_ime_off hf hop (Laws.RoundTrip.di rfl) rfl hfatal rfl hhalted

/-- Settles O27: RETI leaves SP two past the word it popped, and the dispatch stores that word there
again. -/
theorem retiDispatchesPendingRequest : Obligations.RetiDispatchesPendingRequest := by
  intro s hf hm hop hpending
  have hsp : s.sp + 2#16 - 2#16 = s.sp := BitVec.add_sub_cancel _ _
  have hstep := step_eq_interruptCheck hf hop (Laws.RoundTrip.reti rfl) rfl hf.1
  obtain ⟨hime, hspAfter, hlo, hhi, hbytes⟩ := State.interruptCheck_of_pending
    (s := State.returnFromInterrupt { s with pc := s.pc + 1#16 }) rfl hpending
  refine ⟨_, hstep, hime, hspAfter.trans hsp, hlo, hhi, fun hne hne' => ?word⟩
  have hkept : ∀ a, a ≠ ifAddress →
      (State.returnFromInterrupt { s with pc := s.pc + 1#16 }).interruptCheck.readByte a =
        s.readByte a := by
    intro a ha
    rw [hbytes hm a ha, State.returnFromInterrupt, State.returnFrom, hsp]
    exact s.afterWord_readWord s.sp a
  have hne1 : s.sp + 1#16 ≠ ifAddress := fun h => hne' (eq_sub_of_add_eq h)
  rw [State.readWord, hkept _ hne, hkept _ hne1]
  rfl

end Sys2Proof.Machine
end

section
/-! DAA (45_bcd_flags.md R220): O46 and O47. DAA ends in a write of A and then the flags; on the
result of ADD or SUB of two-digit decimals, its two tests are the decimal carries. -/

namespace Sys2Proof.Machine

/-! ### The result of DAA, as numbers (R220) -/

theorem daaAdjust_eq_ofNat (high low : Bool) :
    daaAdjust high low =
      BitVec.ofNat 8 ((if high = true then 0x60 else 0) + (if low = true then 0x06 else 0)) := by
  cases high <;> cases low <;> rfl

/-- The addition path. -/
theorem daaOut_fst_of_not_n (a : Byte) (h c : Bool) :
    (daaOut a false h c).1 = BitVec.ofNat 8 (a.toNat +
      (if c = true ∨ a.toNat > 0x99 then 0x60 else 0) +
      (if h = true ∨ a.toNat % 16 > 9 then 0x06 else 0)) := by
  have hhigh : daaHigh a c = true ↔ c = true ∨ a.toNat > 0x99 := by simp [daaHigh]
  have hlow : daaLow a h = true ↔ h = true ∨ a.toNat % 16 > 9 := by simp [daaLow]
  show a + daaAdjust (daaHigh a c) (daaLow a h) = _
  rw [daaAdjust_eq_ofNat, Nat.add_assoc]
  simp only [hhigh, hlow]
  exact BitVec.eq_of_toNat_eq (by simp [BitVec.toNat_add])

/-- The result and the flags of DAA. -/
def daaResult (s : State) : AluOut where
  r := (daaOut s.a s.flagN s.flagH s.flagC).1
  z := (daaOut s.a s.flagN s.flagH s.flagC).1 == 0#8
  n := s.flagN
  h := false
  c := (daaOut s.a s.flagN s.flagH s.flagC).2

theorem exec_daa (s : State) :
    exec .daa s = .next ((s.writeR8 .a (daaResult s).r).setFlagsOf (daaResult s)) := rfl

/-- Settles O46: the two paths of `daaOut`, with the adjustment as a sum. -/
theorem decimalAdjust : Obligations.DecimalAdjust := by
  refine ⟨Laws.RoundTrip.daa rfl, fun s => ⟨_, exec_daa s, ?_⟩⟩
  obtain ⟨hreg, hflags, hkept⟩ := s.regAndFlags_writeR8 .a (daaResult s)
  have hc : State.flagC ((s.writeR8 .a (daaResult s).r).setFlagsOf (daaResult s)) =
    (daaResult s).c := State.flagC_setFlags ..
  rw [hc]
  refine ⟨fun hn => ⟨?addA, ?addC⟩, fun hn => ⟨?subA, ?subC⟩, hreg, hflags, hkept⟩
  case addA =>
    show (daaOut s.a s.flagN s.flagH s.flagC).1 = _
    rw [hn, daaOut_fst_of_not_n]
  case subA =>
    show (daaOut s.a s.flagN s.flagH s.flagC).1 = _
    rw [hn, ← daaAdjust_eq_ofNat]
    rfl
  case addC | subC =>
    rw [daaResult, hn]
    rfl

/-! ### Decimal operands -/

/-- DAA after an instruction that has left `out` in A and in the flags. -/
theorem exec_daa_of_result (s : State) (out : AluOut) :
    ∃ u, exec .daa ((s.writeR8 .a out.r).setFlagsOf out) = .next u ∧
      u.a = (daaOut out.r out.n out.h out.c).1 ∧ u.flagC = (daaOut out.r out.n out.h out.c).2 := by
  obtain ⟨-, hn, hh, hc, -⟩ := State.flagsAre_setFlagsOf (s.writeR8_f .a out.r) out
  refine ⟨_, exec_daa _, ?_, (State.flagC_setFlags ..).trans ?_⟩
  · show (daaOut out.r _ _ _).1 = _
    rw [hn, hh, hc]
  · show (daaOut out.r _ _ _).2 = _
    rw [hn, hh, hc]

section
variable {a b : Byte} {x1 x0 y1 y0 : Nat}
  (hx1 : x1 ≤ 9) (hx0 : x0 ≤ 9) (hy1 : y1 ≤ 9) (hy0 : y0 ≤ 9)
  (ha : a.toNat = 16 * x1 + x0) (hb : b.toNat = 16 * y1 + y0)
include hx1 hx0 hy1 hy0 ha hb

/-- After ADD the two tests of DAA are the carries of the decimal sum. -/
theorem bcd_daaOut_add8 : ∃ z1 z0, z1 ≤ 9 ∧ z0 ≤ 9 ∧
    (daaOut (add8 a b false).r false (add8 a b false).h (add8 a b false).c).1.toNat =
      16 * z1 + z0 ∧
    10 * x1 + x0 + (10 * y1 + y0) =
      100 * (daaOut (add8 a b false).r false (add8 a b false).h (add8 a b false).c).2.toNat +
        10 * z1 + z0 := by
  have hr : (add8 a b false).r.toNat = (16 * x1 + x0 + (16 * y1 + y0)) % 256 := by
    simp [add8, ha, hb]
  have hh : (add8 a b false).h = true ↔ 15 < x0 + y0 := by
    simp [add8, ha, hb]; omega
  have hc : (add8 a b false).c = true ↔ 255 < 16 * x1 + x0 + (16 * y1 + y0) := by
    simp [add8, ha, hb]
  have hhigh : (add8 a b false).c = true ∨ (add8 a b false).r.toNat > 0x99 ↔
      9 < x1 + y1 + (x0 + y0) / 10 := by
    rw [hc, hr]; omega
  have hlow : (add8 a b false).h = true ∨ (add8 a b false).r.toNat % 16 > 9 ↔ 9 < x0 + y0 := by
    rw [hh, hr]; omega
  have hcarry : (daaOut (add8 a b false).r false (add8 a b false).h (add8 a b false).c).2 =
      decide (9 < x1 + y1 + (x0 + y0) / 10) := by
    rw [Bool.eq_iff_iff, decide_eq_true_iff, ← hhigh]
    simp [daaOut, daaHigh]
  rw [hcarry, daaOut_fst_of_not_n, BitVec.toNat_ofNat, hr]
  rw [hr] at hhigh hlow
  simp only [hhigh, hlow]
  by_cases h1 : 9 < x1 + y1 + (x0 + y0) / 10 <;> by_cases h0 : 9 < x0 + y0 <;>
    simp only [h1, h0, if_true, if_false, decide_true, decide_false, Bool.toNat_true,
      Bool.toNat_false]
  · exact ⟨x1 + y1 + 1 - 10, x0 + y0 - 10, by omega⟩
  · exact ⟨x1 + y1 - 10, x0 + y0, by omega⟩
  · exact ⟨x1 + y1 + 1, x0 + y0 - 10, by omega⟩
  · exact ⟨x1 + y1, x0 + y0, by omega⟩

/-- After SUB they are the borrows of the decimal difference. -/
theorem bcd_daaOut_sub8 : ∃ z1 z0, z1 ≤ 9 ∧ z0 ≤ 9 ∧
    (daaOut (sub8 a b false).r true (sub8 a b false).h (sub8 a b false).c).1.toNat =
      16 * z1 + z0 ∧
    10 * x1 + x0 +
      100 * (daaOut (sub8 a b false).r true (sub8 a b false).h (sub8 a b false).c).2.toNat =
        10 * y1 + y0 + 10 * z1 + z0 := by
  have hr : (sub8 a b false).r.toNat = (256 - (16 * y1 + y0) + (16 * x1 + x0)) % 256 := by
    rw [sub8_r]
    simp [BitVec.toNat_sub, ha, hb]
  have hh : (sub8 a b false).h = decide (x0 < y0) := by
    rw [sub8_h, ha, hb]
    exact decide_eq_decide.mpr (by simp; omega)
  have hc : (sub8 a b false).c = decide (16 * x1 + x0 < 16 * y1 + y0) := by
    rw [sub8_c, ha, hb]
    rfl
  have hout : daaOut (sub8 a b false).r true (sub8 a b false).h (sub8 a b false).c =
      ((sub8 a b false).r - daaAdjust (sub8 a b false).c (sub8 a b false).h,
        (sub8 a b false).c) := rfl
  rw [hout, daaAdjust_eq_ofNat, BitVec.toNat_sub, BitVec.toNat_ofNat, hr, hh, hc]
  by_cases h1 : 16 * x1 + x0 < 16 * y1 + y0 <;> by_cases h0 : x0 < y0 <;>
    simp only [h1, h0, if_true, if_false, decide_true, decide_false, Bool.toNat_true,
      Bool.toNat_false, Bool.false_eq_true]
  · exact ⟨x1 + 10 - y1 - 1, x0 + 10 - y0, by omega⟩
  · exact ⟨x1 + 10 - y1, x0 - y0, by omega⟩
  · exact ⟨x1 - y1 - 1, x0 + 10 - y0, by omega⟩
  · exact ⟨x1 - y1, x0 - y0, by omega⟩

end

/-- Settles O47: the flags that ADD and SUB leave are those that DAA tests. -/
theorem decimalAdjustIsBcd : Obligations.DecimalAdjustIsBcd := by
  refine fun s n8 x1 x0 y1 y0 hx1 hx0 hy1 hy0 ha hn8 => ⟨?add, ?sub⟩
  case add =>
    obtain ⟨u, hexec, hua, huc⟩ := exec_daa_of_result s (add8 s.a n8 false)
    obtain ⟨z1, z0, hz⟩ := bcd_daaOut_add8 hx1 hx0 hy1 hy0 ha hn8
    exact ⟨_, u, z1, z0, exec_aluN8 .add n8 s, hexec, hua ▸ huc ▸ hz⟩
  case sub =>
    obtain ⟨u, hexec, hua, huc⟩ := exec_daa_of_result s (sub8 s.a n8 false)
    obtain ⟨z1, z0, hz⟩ := bcd_daaOut_sub8 hx1 hx0 hy1 hy0 ha hn8
    exact ⟨_, u, z1, z0, exec_aluN8 .sub n8 s, hexec, hua ▸ huc ▸ hz⟩

end Sys2Proof.Machine
end

section
/-! Returns, PUSH with POP, SP plus a displacement, system instructions and PREFIX CB (46_control.md
R238 to R240; 47_stack_sp.md R251, R256 to R258; 48_system.md R270 to R275), and the machine at any
values of its parameters (00_scope.md R2 to R4): O51, O54, O56 to O60. -/

namespace Sys2Proof.Machine

/-! ### Returns (46_control.md R238 to R240) -/

theorem decodes_retIf (cc : Cond) :
    Claims.Decodes [Claims.xyz 3#2 (0#1 ++ Claims.ccCode cc) 0#3] (Instr.retIf cc) := by
  intro rest
  cases cc <;> rfl

theorem exec_retIf (cc : Cond) (s : State) :
    exec (Instr.retIf cc) s = .next (if Claims.holds s cc = true then s.returnFrom else s) := by
  rw [← State.transferIf_eq_ite_holds]
  cases cc <;> rfl

/-- Settles O51: the three forms are `State.returnFrom` and `State.returnFromInterrupt` as they
stand. -/
theorem returns : Obligations.Returns :=
  ⟨Laws.RoundTrip.ret rfl, Laws.RoundTrip.reti rfl, fun _ => ⟨rfl, rfl⟩,
    fun cc => ⟨decodes_retIf cc, exec_retIf cc⟩⟩

/-! ### PUSH, then POP (47_stack_sp.md R251) -/

@[simp] theorem State.readRp2_push16 (s : State) (v : Word) (q : Rp2) :
    (s.push16 v).readRp2 q = s.readRp2 q := by
  cases q <;> simp [State.readRp2, State.bc, State.de, State.hl, State.af]

/-- Settles O54: the word that `State.push16` stores is the one `State.popInto` reads. -/
theorem pushThenPopMovesPair : Obligations.PushThenPopMovesPair := by
  intro s p q hq hm hlow hhigh
  have hnext : s.sp - 2#16 + 1#16 = s.sp - 1#16 := by bv_omega
  have hword := State.readWord_push16 hm (s.readRp2 p) hlow (hnext ▸ hhigh)
  refine ⟨_, _, exec_push p s, exec_pop hq _, ?pair, ?sp, fun x hx => ?others⟩
  case pair => rw [State.readRp2_popInto, if_pos rfl, hword]
  case sp => rw [State.popInto_sp, State.sp_push16, BitVec.sub_add_cancel]
  case others => rw [State.readRp2_popInto, if_neg hx, State.readRp2_push16]

/-! ### SP plus a displacement (47_stack_sp.md R256 to R258) -/

/-- The low byte of a displacement is the byte it was fetched as. -/
theorem displacement_toNat_mod (e8 : Byte) : (displacement e8).toNat % 0x100 = e8.toNat := by
  revert e8
  decide

/-- H and C of `SPAdd` are carries: bit `k` of the XOR is the carry out of the bits below it. -/
theorem spAdd_h {hBit : Nat} (hk : hBit < 16) (sp : Word) (e8 : Byte) :
    (spAdd hBit sp e8).h =
      decide (sp.toNat % 2 ^ hBit + (e8.signExtend 16).toNat % 2 ^ hBit ≥ 2 ^ hBit) :=
  xor_sum_bit hk sp (displacement e8)

theorem spAdd_c (hBit : Nat) (sp : Word) (e8 : Byte) :
    (spAdd hBit sp e8).c = decide (sp.toNat % 0x100 + e8.toNat > 0xFF) := by
  refine (xor_sum_bit (k := 8) (by decide) sp (displacement e8)).trans (decide_eq_decide.mpr ?_)
  rw [show 2 ^ 8 = 0x100 from rfl, displacement_toNat_mod]
  omega

/-- `t` is what LD HL,SP+e8 or ADD SP,e8 makes of `s`: the sum in `p`, SPE_H_BIT = `hBit`. -/
def AddsToSp (hBit : Nat) (e8 : Byte) (s t : State) (p : Rp) : Prop :=
  Claims.PairSet s t p (BitVec.ofInt 16 (s.sp.toNat + e8.toInt)) ∧
  Claims.FlagsAre s t false false
    (decide (s.sp.toNat % 2 ^ hBit + (e8.signExtend 16).toNat % 2 ^ hBit ≥ 2 ^ hBit))
    (decide (s.sp.toNat % 0x100 + e8.toNat > 0xFF)) ∧
  t.pc = s.pc ∧ Claims.StatusKept s t ∧ Claims.MemKept s t

/-- A write of the sum to `p` and then of the flags. -/
theorem addsToSp_writeRp_setSpFlags {hBit : Nat} (hk : hBit < 16) (e8 : Byte) (s : State) (p : Rp) :
    AddsToSp hBit e8 s
      ((s.writeRp p (spAdd hBit s.sp e8).r).setSpFlags (spAdd hBit s.sp e8)) p := by
  have hr : (spAdd hBit s.sp e8).r = BitVec.ofInt 16 (s.sp.toNat + e8.toInt) :=
    add_displacement s.sp e8
  rw [AddsToSp, ← hr, ← spAdd_h hk, ← spAdd_c hBit]
  exact ⟨⟨fun q => (State.readRp_setFlags ..).trans (s.readRp_writeRp p q _), s.writeRp_a p _⟩,
    State.flagsAre_setFlags (s.writeRp_f p _) _ _ _ _, s.writeRp_pc p _, s.statusKept_writeRp p _,
    s.readByte_writeRp p _⟩

/-- Both forms for any admitted SPE_H_BIT. -/
theorem execWith_addsToSp {ps : Config.Params} (hk : ps.speHBit < 16) (e8 : Byte) (s : State) :
    ∀ q ∈ [(Instr.ldHlSpE8 e8, Rp.hl), (.addSpE8 e8, .sp)],
      ∃ t, execWith ps q.1 s = .next t ∧ AddsToSp ps.speHBit e8 s t q.2 := by
  intro q hq
  simp only [List.mem_cons, List.not_mem_nil, or_false] at hq
  obtain rfl | rfl := hq
  · exact ⟨_, rfl, addsToSp_writeRp_setSpFlags hk e8 s .hl⟩
  · exact ⟨_, rfl, addsToSp_writeRp_setSpFlags hk e8 s .sp⟩

/-! ### The machine at the values of its parameters (00_scope.md R2 to R4) -/

/-- At the spec's values the three parametrised instructions are the machine's own, and no other
takes a parameter. -/
theorem execWith_spec (i : Instr) (s : State) : execWith Config.Params.spec i s = exec i s := by
  unfold execWith
  split <;> rfl

theorem speHBit_lt_of_valid {ps : Config.Params} (h : ps.Valid) : ps.speHBit < 16 := by
  obtain ⟨-, h | h⟩ := h <;> omega

theorem State.inv_powerOnWith (init : Nat → Byte) (image : List Byte) :
    (powerOnWith init image).Inv :=
  ⟨State.wf_powerOnWith init image, by
    show State.reset.f.extractLsb' 0 4 = 0#4
    decide⟩

/-- Settles O56: the machine's own instructions are those with SPE_H_BIT = 12. -/
theorem spPlusDisplacement : Obligations.SpPlusDisplacement := by
  refine fun e8 => ⟨Laws.RoundTrip.ldHlSpE8 e8 rfl, Laws.RoundTrip.addSpE8 e8 rfl, fun s q hq => ?_⟩
  rw [← execWith_spec]
  exact execWith_addsToSp (ps := Config.Params.spec) (by decide) e8 s q hq

/-- Settles O57: the admitted values of SPE_H_BIT are bits of a word, and power-on is
`State.readByte_powerOnWith`. -/
theorem openParameters : Obligations.OpenParameters :=
  ⟨fun ps hps => ⟨fun _ => rfl,
      fun e8 s => execWith_addsToSp (speHBit_lt_of_valid hps) e8 s⟩,
    by decide, execWith_spec,
    fun init image => ⟨State.inv_powerOnWith init image, rfl,
      State.readByte_powerOnWith init image⟩,
    powerOnWith_memInit⟩

/-! ### NOP, HALT, DI, EI and STOP (48_system.md R270 to R274) -/

/-- Settles O58: the meanings of the four as they stand. -/
theorem nopHaltDiEi : Obligations.NopHaltDiEi :=
  ⟨Laws.RoundTrip.nop rfl, Laws.RoundTrip.halt rfl, Laws.RoundTrip.di rfl, Laws.RoundTrip.ei rfl,
    fun _ => ⟨rfl, rfl, rfl, rfl⟩⟩

/-- Settles O59: with IME 0 the check that ends the step can only clear `halted`, which is clear. -/
theorem stopSetsStopped : Obligations.StopSetsStopped := by
  refine ⟨Laws.RoundTrip.stop rfl, fun _ => rfl, fun s hf hop hime => ?_⟩
  have ⟨hfatal, _, hhalted⟩ := hf
  have hpc : s.pc + 1#16 + 2#16 = s.pc + 3#16 := BitVec.add_assoc s.pc 1#16 2#16
  rw [← hpc]
  exact step_eq_of_ime_off hf hop (Laws.RoundTrip.stop rfl) rfl hfatal hime hhalted

/-! ### PREFIX CB (48_system.md R275) -/

/-- `State.executeCb` works on the fields of the second byte, the 0xCB map on its whole: entry by
entry they agree (30_encoding.md R77). -/
theorem exec_decodeCb (op2 : Byte) (s : State) :
    exec (decodeCb op2) s = .next (s.executeCb op2) := by
  obtain ⟨k, hk, rfl⟩ := Laws.exists_eq_ofNat op2
  interval_cases k <;> rfl

/-- Settles O60. -/
theorem prefixRunsSecondByte : Obligations.PrefixRunsSecondByte :=
  ⟨rfl, Laws.decode_cb, fun _ => ⟨(exec_decodeCb _ _).symm, _, rfl⟩⟩

end Sys2Proof.Machine
end
